-- ==== Sys2Proof/Word.lean ====
section
/-! DEFINITION. The words of the part: a frame, a register or a message byte is 8 bits; a node number, a
destination or a header field is 4 bits (00_scope.md section 4, TABLE 2-6, TABLE 11-1). -/

namespace Sys2Proof

/-- A frame on the line, a host register, a byte of a message. -/
abbrev Byte := BitVec 8

/-- A four-bit field: a node number 0 to 14, or 15 for broadcast or ANY; a kind code. -/
abbrev Nibble := BitVec 4

/-- A handle, 0 to 7, of a send entry (R55). -/
abbrev Handle := Fin 8

/-- An index, 0 to 3, of an offer (R156). -/
abbrev OfferIndex := Fin 4

/-- The number, 0 to 63, of a cell of the Message Memory (R39). -/
abbrev CellNumber := Fin 64

end Sys2Proof
end

