-- ==== Sys2Proof/Syntax.lean ====
section
/-! DEFINITION. The commands of the part: one constructor for each row of spec/opcode_table.json, in the
table's order. A command code's operands stand in OPERAND A, B and C (R191) and are therefore no operands here. -/

namespace Sys2Proof

/-- The target of a REGISTER_WRITE (R190): a register whose write only stores the byte, or a read-only one.
COMMAND, EVENTS, ENABLES and FILL DATA are written by commands of their own rows. -/
inductive WindowRegister where
  | operandA | operandB | operandC | viewSelect
  | status | drainData | view (n : Fin 6)
  deriving DecidableEq, Repr

/-- A command: a register access, a command code, a line event, a timer expiry or a completed frame.
`lmd` and `lrd` are the frame as read on LMD and on LRD. `lclLow` says whether LCL reads low at the event, once
this node's own pull, if the event ends it, has ended (R13, log 7). -/
inductive Instr where
  | powerOn
  | configure
  | lineOn (lclLow : Bool)
  | lineOff
  | softReset
  | openSend
  | post
  | cancel
  | halt
  | go
  | resume
  | discard
  | take
  | takeReport
  | openOffer
  | postOffer
  | withdraw
  | clearOffer
  | clearStatistics
  | unknownCommand (code : Byte)
  | fillData (value : Byte)
  | drainData
  | eventsWrite (value : Byte)
  | enablesWrite (value : Byte)
  | registerWrite (register : WindowRegister) (value : Byte)
  | lclSeenGoingLow
  | lclSeenReleased
  | quietTimerExpires
  | longQuietTimerExpires
  | claimLimitTimerExpires
  | backoffTimerExpires (handle : Handle)
  | lostArbitration (lclLow : Bool)
  | conflict (lclLow : Bool)
  | h0Completes (lmd : Byte)
  | h1Completes (lmd : Byte)
  | h2Completes (lmd : Byte)
  | h3Completes (lmd : Byte)
  | aCompletes (lrd : Byte) (lclLow : Bool)
  | lCompletes (lrd : Byte) (lclLow : Bool)
  | payloadFrameCompletes (lmd lrd : Byte)
  | c0Completes (lmd lrd : Byte)
  | c1Completes (lmd lrd : Byte) (lclLow : Bool)
  | vCompletes (lmd lrd : Byte) (lclLow : Bool)
  deriving DecidableEq, Repr

end Sys2Proof
end

