-- ==== Sys2Proof/Decode.lean ====
section
/-! DEFINITION. Words to commands. No row of spec/opcode_table.json gives bits (98_reader.md: no row with fixed
bits, none with fields), so no word of the table spells a command (log 20). What the host's bus spells does: a write of
a register is a command, and the byte written to COMMAND names one (TABLE 11-1, R190, R191). -/

namespace Sys2Proof

/-- The command codes of TABLE 11-1 with the commands they name (R191). LINE ON reads LCL (R18), so its command carries
the level (log 7). -/
def commandTable (lclLow : Bool) : List (Byte × Instr) :=
  [(0x01, .configure), (0x02, .lineOn lclLow), (0x03, .lineOff), (0x04, .softReset),
   (0x10, .openSend), (0x11, .post), (0x12, .cancel), (0x13, .halt), (0x14, .go), (0x15, .resume), (0x16, .discard),
   (0x20, .take), (0x21, .takeReport),
   (0x30, .openOffer), (0x31, .postOffer), (0x32, .withdraw), (0x33, .clearOffer),
   (0x40, .clearStatistics)]

/-- The command that a byte written to COMMAND names; none for a code that names no command (R191). -/
def commandOfCode (code : Byte) (lclLow : Bool) : Option Instr := (commandTable lclLow).lookup code

/-- The command that a write of COMMAND issues (R191): a code that names none gives UNKNOWN COMMAND. -/
def commandWritten (code : Byte) (lclLow : Bool) : Instr :=
  match commandOfCode code lclLow with
  | some c => c
  | none => .unknownCommand code

/-- The command that the host's write of a byte to a register address is (TABLE 11-1, R190): VIEW 0 to VIEW 5 stand
at addresses 10 to 15. -/
def hostWrite (address : Nibble) (value : Byte) (lclLow : Bool) : Instr :=
  if address = 0 then .registerWrite .status value
  else if address = 1 then .eventsWrite value
  else if address = 2 then .enablesWrite value
  else if address = 3 then commandWritten value lclLow
  else if address = 4 then .registerWrite .operandA value
  else if address = 5 then .registerWrite .operandB value
  else if address = 6 then .registerWrite .operandC value
  else if address = 7 then .fillData value
  else if address = 8 then .registerWrite .drainData value
  else if address = 9 then .registerWrite .viewSelect value
  else .registerWrite (.view (Fin.ofNat 6 (address.toNat - 10))) value

/-- The command that the word `w` of `nbits` bits spells by the bits of spec/opcode_table.json: none, since no row
of the table gives any (log 20). -/
def decodeTableWord (_nbits _w : Nat) : Option Instr := none

end Sys2Proof
end

