-- ==== Sys2Proof/Config.lean ====
section
/-! DEFINITION. What the spec leaves open and the model leaves free. -/

namespace Sys2Proof

/-- Which of the timer expiries that are due together in one bit period is taken first: the spec lets "either
be taken first" (R70), so the choice is a free value. The step applies it to `State.expiryCount` (log 3). -/
opaque Config.expiryChoice : Nat → Nat

end Sys2Proof
end

