-- ==== Sys2Proof/Machine/State.lean ====
section
/-! DEFINITION. The state of the part, block by block as TABLE 0-1 lists the blocks, as plain data. -/

namespace Sys2Proof.Machine

/-! ### Names the blocks share -/

/-- The kind of an exchange and of a send entry; codes 1 to 4 of TABLE 11-1 (R22). -/
inductive Kind where
  | data | probe | broadcast | collect
  deriving DecidableEq, Repr

/-- The answers a target drives in A (TABLE 2-1). -/
inductive Answer where
  | accept | busy | malformed | noOffer
  deriving DecidableEq, Repr

/-- The verdicts of TABLE 2-2. -/
inductive Verdict where
  | good | goodDuplicate | check
  deriving DecidableEq, Repr

/-- The path chosen at admission (R116). -/
inductive Path where
  | none | new | duplicate | probe
  deriving DecidableEq, Repr

/-! ### Line Engine (chapter 1) -/

/-- Roles of a LISTENER (TABLE 1-3). A SERVING node holds which offer it serves. -/
inductive Role where
  | undecided | addressed | gathering | serving (offer : OfferIndex) | bystander
  deriving DecidableEq, Repr

/-- Line Engine states (TABLE 1-2). As MASTER it holds the handle of the IN-FLIGHT entry; as LISTENER its role,
so that a role is held in LISTENER and in no other state (R4). -/
inductive LineState where
  | off | joining | settling | quiet | master (handle : Handle) | listener (role : Role) | stuck
  deriving DecidableEq, Repr

/-- The frame of the exchange now under way (R34): `p k` is payload frame Pk; `complete` is past the point of
completion, where the node assembles no further frames; `idle` is no exchange. -/
inductive Phase where
  | idle | h0 | h1 | h2 | h3 | a | l | p (k : Nat) | c0 | c1 | v | complete
  deriving DecidableEq, Repr

/-- The frames of the exchange that are held, as driven or as read: the header (section 1.2), L, which is the
payload count of a COLLECT (R33), and C0 (R38). `carried` is a payload frame, C1 or V in which the node, as master, met
a difference, as the line carried it (R8); a header frame or C0 so met is held in its own place. -/
structure Frames where
  h0 : Option Byte
  h1 : Option Byte
  h2 : Option Byte
  h3 : Option Byte
  l : Option Byte
  c0 : Option Byte
  carried : Option Byte
  deriving DecidableEq, Repr

/-- No held frame. -/
def Frames.cleared : Frames := ⟨none, none, none, none, none, none, none⟩

/-- The part of the listener record (R116) that is not in the held frames: the answer decided, the path and the
verdict decided at C1. A collector holds the verdict it drives (R95) in the same field. -/
structure ListenerRecord where
  answer : Option Answer
  path : Path
  verdict : Option Verdict
  deriving DecidableEq, Repr

/-- The cleared listener record (R116). -/
def ListenerRecord.cleared : ListenerRecord := ⟨none, .none, none⟩

/-- The Line Engine (section 1.2). A timer is `none` while stopped and counts the bit periods since it started
while it runs. -/
structure LineEngine where
  state : LineState
  phase : Phase
  frames : Frames
  record : ListenerRecord
  s1 : Byte
  s2 : Byte
  quietTimer : Option Nat
  longQuietTimer : Option Nat
  claimTimer : Option Nat
  holdOff : Bool
  deriving DecidableEq, Repr

/-- TABLE 1-4, power-on. -/
def LineEngine.reset : LineEngine :=
  { state := .off, phase := .idle, frames := .cleared, record := .cleared, s1 := 0, s2 := 0,
    quietTimer := none, longQuietTimer := none, claimTimer := none, holdOff := false }

/-! ### Message Memory (chapter 3) -/

/-- The owner of a cell (R40). -/
inductive Owner where
  | free | send (handle : Handle) | offer (index : OfferIndex) | intake | record
  deriving DecidableEq, Repr

/-- The bytes of the 64 cells, cell c at addresses 32c to 32c + 31, in canonical form (log 1). -/
abbrev Memory := List Host.Cell

/-- The Message Memory: the owner of every cell, and the bytes. The free count is computed (R40). -/
structure Pool where
  owners : Vector Owner 64
  mem : Memory
  deriving DecidableEq, Repr

/-- R54, power-on: every cell FREE. The contents are not defined by the spec; nothing is listed (log 1). -/
def Pool.reset : Pool := { owners := Vector.replicate 64 .free, mem := [] }

/-! ### Send Queue and Destination Table (chapters 4 to 6) -/

/-- States of a send entry (TABLE 4-2). -/
inductive EntryState where
  | free | staging | ready | backoff | held | inFlight | finished
  deriving DecidableEq, Repr

/-- Reasons of a consumed attempt (TABLE 5-4). -/
inductive Reason where
  | none | noAnswer | busy | unclear | check | conflict
  deriving DecidableEq, Repr

/-- Outcomes of a send entry (TABLE 4-9). -/
inductive SendOutcome where
  | delivered | deliveredDuplicate | sent | collected | empty | refused | failed | cancelled | discarded
  deriving DecidableEq, Repr

/-- The fields of a send entry (TABLE 4-1); the handle is its place. `backoff` is the backoff timer, in bit
periods left. -/
structure SendEntry where
  state : EntryState
  length : Nat
  cells : List CellNumber
  postNumber : Byte
  dest : Nibble
  kind : Option Kind
  urgent : Bool
  tag : Byte
  retryLimit : Nat
  attempts : Nat
  lastReason : Reason
  cancelPending : Bool
  backoff : Nat
  outcome : Option SendOutcome
  deriving DecidableEq, Repr

/-- A FREE entry: every field at 0 (R55). -/
def SendEntry.free : SendEntry :=
  { state := .free, length := 0, cells := [], postNumber := 0, dest := 0, kind := none, urgent := false,
    tag := 0, retryLimit := 0, attempts := 0, lastReason := .none, cancelPending := false, backoff := 0,
    outcome := none }

/-- An entry of the Destination Table (TABLE 6-1); OPEN is `suspended = false`. -/
structure Destination where
  suspended : Bool
  nextTag : Byte
  fresh : Bool
  suspendingPost : Byte
  deriving DecidableEq, Repr

/-- R114, power-on. -/
def Destination.reset : Destination :=
  { suspended := false, nextTag := 0, fresh := true, suspendingPost := 0 }

/-- The Send Queue: the entries, the post-order list oldest first (R56), the post counter (R62), the halted flag
(R73) and the Destination Table (R105). -/
structure SendQueue where
  entries : Vector SendEntry 8
  order : List Handle
  postCounter : Byte
  halted : Bool
  dests : Vector Destination 16
  deriving DecidableEq, Repr

/-- R77 and R114, power-on. -/
def SendQueue.reset : SendQueue :=
  { entries := Vector.replicate 8 .free, order := [], postCounter := 0, halted := false,
    dests := Vector.replicate 16 .reset }

/-! ### Receive List and Source Table (chapters 7 and 8) -/

/-- Kinds of a receive record (TABLE 8-1). -/
inductive RecordKind where
  | data | broadcast | reply
  deriving DecidableEq, Repr

/-- A committed receive record (TABLE 8-1). An absent post number is 0. -/
structure ReceiveRecord where
  arrival : Byte
  origin : Nibble
  kind : RecordKind
  urgent : Bool
  tag : Byte
  length : Nat
  postNumber : Byte
  cells : List CellNumber
  deriving DecidableEq, Repr

/-- The pending intake (R125). -/
structure Intake where
  origin : Nibble
  urgent : Bool
  tag : Byte
  length : Nat
  cells : List CellNumber
  deriving DecidableEq, Repr

/-- An entry of the Source Table (TABLE 7-4). -/
structure Source where
  seen : Bool
  lastTag : Byte
  duplicates : Byte
  deriving DecidableEq, Repr

/-- R142, power-on. -/
def Source.reset : Source := { seen := false, lastTag := 0, duplicates := 0 }

/-- The Receive List: the records head first, the pending intake, the arrival counter (R144), the drain cursor
(R150, `none` while detached) and the Source Table (R134). -/
structure ReceiveList where
  records : List ReceiveRecord
  intake : Option Intake
  arrivalCounter : Byte
  drain : Option Nat
  sources : Vector Source 15
  deriving DecidableEq, Repr

/-- R155 and R142, power-on. -/
def ReceiveList.reset : ReceiveList :=
  { records := [], intake := none, arrivalCounter := 0, drain := none, sources := Vector.replicate 15 .reset }

/-! ### Offer Table (chapter 9) -/

/-- States of an offer (TABLE 9-2). -/
inductive OfferState where
  | free | staging | posted | serving | taken
  deriving DecidableEq, Repr

/-- The fields of an offer (TABLE 9-1); the index is its place in the table. -/
structure Offer where
  state : OfferState
  addressee : Nibble
  length : Nat
  cells : List CellNumber
  takenBy : Nibble
  withdrawPending : Bool
  deriving DecidableEq, Repr

/-- A FREE offer: every field at 0 (R175). -/
def Offer.free : Offer :=
  { state := .free, addressee := 0, length := 0, cells := [], takenBy := 0, withdrawPending := false }

/-- The Offer Table: the offers and the offer order, oldest first (R157). -/
structure OfferTable where
  slots : Vector Offer 4
  order : List OfferIndex
  deriving DecidableEq, Repr

/-- R175, power-on. -/
def OfferTable.reset : OfferTable := { slots := Vector.replicate 4 .free, order := [] }

/-! ### Report List (chapter 10) -/

/-- A report record (TABLE 10-1). -/
structure Report where
  handle : Handle
  postNumber : Byte
  dest : Nibble
  kind : Option Kind
  outcome : Option SendOutcome
  lastReason : Reason
  attempts : Nat
  deriving DecidableEq, Repr

/-- The Report List, head first, and the FINISHED waiting list, oldest first (R177). -/
structure ReportList where
  records : List Report
  waiting : List Handle
  deriving DecidableEq, Repr

/-- R181, power-on. -/
def ReportList.reset : ReportList := { records := [], waiting := [] }

/-! ### Event Unit (chapter 10) -/

/-- The state the Event Unit holds: the sticky flags (R183) and the seven enables at their places in EVENTS
(R186). Level flags and INT are computed. -/
structure EventUnit where
  lineStuck : Bool
  broadcastMissed : Bool
  windowError : Bool
  enables : BitVec 7
  deriving DecidableEq, Repr

/-- R189, power-on. -/
def EventUnit.reset : EventUnit :=
  { lineStuck := false, broadcastMissed := false, windowError := false, enables := 0 }

/-! ### Host Window (chapter 11) -/

/-- Result codes, in the order of TABLE 11-1. -/
inductive ResultCode where
  | done | empty | noSlot | noCells | badLength | badHandle | badState | badDestination | badKind | badValue
  | notSuspended | lineOn | unknownCommand
  deriving DecidableEq, Repr

/-- The configuration store (TABLE 11-2). -/
structure Settings where
  node : Nibble
  rateDivider : Nat
  quietInterval : Nat
  backoffBase : Nat
  retryLimit : Nat
  reserve : Nat
  intakeHold : Bool
  deriving DecidableEq, Repr

/-- The defaults of TABLE 11-2. -/
def Settings.default : Settings :=
  { node := 0, rateDivider := 16, quietInterval := 16, backoffBase := 4, retryLimit := 4, reserve := 8,
    intakeHold := false }

/-- The six statistics counters (TABLE 11-3). -/
structure Statistics where
  claimsLost : Byte
  conflicts : Byte
  busyGiven : Byte
  cutShort : Byte
  broadcastsMissed : Byte
  lineStuck : Byte
  deriving DecidableEq, Repr

/-- All counters at 0 (R201). -/
def Statistics.zero : Statistics := ⟨0, 0, 0, 0, 0, 0⟩

/-- The staging buffer the fill cursor is attached to (R196). -/
inductive Buffer where
  | send (handle : Handle) | offer (index : OfferIndex)
  deriving DecidableEq, Repr

/-- An attached fill cursor: its buffer and its position (R196). -/
structure FillCursor where
  buffer : Buffer
  position : Nat
  deriving DecidableEq, Repr

/-- The Host Window: RESULT, the operand registers, VIEW SELECT, the fill cursor (`none` while detached), the
configuration store and the statistics counters. -/
structure HostWindow where
  result : ResultCode
  opA : Byte
  opB : Byte
  opC : Byte
  viewSelect : Byte
  fill : Option FillCursor
  settings : Settings
  stats : Statistics
  deriving DecidableEq, Repr

/-- R202, power-on. -/
def HostWindow.reset : HostWindow :=
  { result := .done, opA := 0, opB := 0, opC := 0, viewSelect := 0, fill := none, settings := .default,
    stats := .zero }

/-! ### The part -/

/-- The whole part, and three fields of the model's own: the queue of waiting commands, first in, first out
(log 19); the byte the last DRAIN DATA read returned (log 12); and the counter that `Config.expiryChoice` is
applied to (log 3). -/
structure State where
  line : LineEngine
  pool : Pool
  queue : SendQueue
  recv : ReceiveList
  offers : OfferTable
  reports : ReportList
  events : EventUnit
  window : HostWindow
  busData : Byte
  expiryCount : Nat
  pending : List Instr
  deriving DecidableEq, Repr

/-- The part after RESET is released (R202). -/
def State.reset : State :=
  { line := .reset, pool := .reset, queue := .reset, recv := .reset, offers := .reset, reports := .reset,
    events := .reset, window := .reset, busData := 0, expiryCount := 0, pending := [] }

/-- The part never stops with a fault: a command that cannot be carried out gives a result code (R193) or a window
error (R184), and a broken exchange ends by its rules. So there is no constructor. -/
inductive Fault where
  deriving DecidableEq, Repr

/-- Why a step is refused. -/
inductive Refusal where
  /-- Raised by `exec` for a row that has no meaning yet. Safe: nothing is claimed of it. -/
  | notModelled (mnemonic : String)
  /-- Raised by UNKNOWN_COMMAND given a code that does name a command (R191): the term is no command of its row,
  and that code's own row gives the effect (log 13). Safe. -/
  | notAnUnknownCommand
  deriving DecidableEq, Repr

/-- What a meaning answers. -/
abbrev Res := Host.Outcome State Fault Refusal

end Sys2Proof.Machine
end

