-- ==== Sys2Proof/Machine/Operands.lean ====
section
/-! DEFINITION. Codes, fields and operands: the codes of TABLES 2-1, 2-2 and 11-1, the fields of the header frames
(TABLE 2-6), and how a command reads its operand registers. -/

namespace Sys2Proof.Machine

/-! ### Fields of a byte -/

/-- Bits 7 to 4. -/
def hi (b : Byte) : Nibble := b.extractLsb' 4 4

/-- Bits 3 to 0. -/
def lo (b : Byte) : Nibble := b.extractLsb' 0 4

/-- A byte from its bits 7 to 4 and its bits 3 to 0. -/
def pack (high low : Nibble) : Byte := high ++ low

/-- A number shown in a four-bit field. -/
def nibble (n : Nat) : Nibble := BitVec.ofNat 4 n

/-- A number shown in a register, or driven as a frame. -/
def byte (n : Nat) : Byte := BitVec.ofNat 8 n

/-! ### Codes -/

/-- Kind codes (R22, TABLE 11-1). -/
def Kind.code : Kind → Nibble
  | .data => 1 | .probe => 2 | .broadcast => 3 | .collect => 4

/-- The kind a code names; none for a code outside 1 to 4 (R31, R60). -/
def Kind.ofCode (code : Nibble) : Option Kind :=
  if code = 1 then some .data else if code = 2 then some .probe
  else if code = 3 then some .broadcast else if code = 4 then some .collect else none

/-- The code shown for a kind that may be absent: 0 for none (R55). -/
def kindCode : Option Kind → Nibble
  | none => 0
  | some k => k.code

/-- Answer codes (TABLE 2-1). -/
def Answer.code : Answer → Byte
  | .accept => 0xA6 | .busy => 0x59 | .malformed => 0x6C | .noOffer => 0x93

/-- Verdict codes (TABLE 2-2). -/
def Verdict.code : Verdict → Byte
  | .good => 0xC5 | .goodDuplicate => 0xCA | .check => 0x35

/-- Line Engine state codes (TABLE 11-1). -/
def LineState.code : LineState → BitVec 3
  | .off => 0 | .joining => 1 | .settling => 2 | .quiet => 3 | .master _ => 4 | .listener _ => 5 | .stuck => 6

/-- Entry state codes (TABLE 11-1). -/
def EntryState.code : EntryState → Nibble
  | .free => 0 | .staging => 1 | .ready => 2 | .backoff => 3 | .held => 4 | .inFlight => 5 | .finished => 6

/-- Offer state codes (TABLE 11-1). -/
def OfferState.code : OfferState → Nibble
  | .free => 0 | .staging => 1 | .posted => 2 | .serving => 3 | .taken => 4

/-- Outcome codes (TABLE 11-1); 0 is none. -/
def outcomeCode : Option SendOutcome → Nibble
  | none => 0
  | some .delivered => 1 | some .deliveredDuplicate => 2 | some .sent => 3 | some .collected => 4
  | some .empty => 5 | some .refused => 6 | some .failed => 7 | some .cancelled => 8 | some .discarded => 9

/-- Reason codes (TABLE 11-1). -/
def Reason.code : Reason → Nibble
  | .none => 0 | .noAnswer => 1 | .busy => 2 | .unclear => 3 | .check => 4 | .conflict => 5

/-- Result codes (TABLE 11-1). -/
def ResultCode.code : ResultCode → Byte
  | .done => 0x00 | .empty => 0x01 | .noSlot => 0x02 | .noCells => 0x03 | .badLength => 0x04 | .badHandle => 0x05
  | .badState => 0x06 | .badDestination => 0x07 | .badKind => 0x08 | .badValue => 0x09 | .notSuspended => 0x0A
  | .lineOn => 0x0B | .unknownCommand => 0x0C

/-- Receive record kinds as the HEAD RECORD view shows them (TABLE 11-1). -/
def RecordKind.code : RecordKind → BitVec 2
  | .data => 1 | .broadcast => 2 | .reply => 3

/-! ### Classing the answer and the verdict -/

/-- What a master makes of A (R25). -/
inductive AnswerClass where
  | accept | busy | malformed | noOffer | noAnswer | unclear
  deriving DecidableEq, Repr

/-- R25: the class of the frame read in A by the master of a DATA, PROBE or COLLECT. -/
def classAnswer (kind : Kind) (a : Byte) : AnswerClass :=
  if a = Answer.accept.code then .accept
  else if a = Answer.busy.code then .busy
  else if a = Answer.malformed.code then .malformed
  else if a = Answer.noOffer.code ∧ kind = .collect then .noOffer
  else if a = 0xFF then .noAnswer
  else .unclear

/-- R26: the verdict that the master of a DATA or PROBE reads in V; none is UNCLEAR. -/
def classVerdict (v : Byte) : Option Verdict :=
  if v = Verdict.good.code then some .good
  else if v = Verdict.goodDuplicate.code then some .goodDuplicate
  else if v = Verdict.check.code then some .check
  else none

/-! ### The header -/

/-- The low four bits of H1: URGENT, FIRST and two zero bits (R23). -/
def headerFlags (urgent first : Bool) : Nibble :=
  BitVec.ofBool urgent ++ BitVec.ofBool first ++ (0 : BitVec 2)

/-- R79: the header frames a master forms from its entry; `first` is R80's decision. -/
def formHeader (node : Nibble) (e : SendEntry) (first : Bool) : Frames :=
  { h0 := some (pack node (kindCode e.kind))
    h1 := some (pack e.dest (headerFlags e.urgent first))
    h2 := some e.tag
    h3 := some (byte e.length)
    l := none, c0 := none, carried := none }

/-- R8: the frame of a phase after H0 that a withdrawn master goes on to assemble is held as the line carried it: a
header frame and C0 in their own places, a payload frame, C1 and V in `carried`. The other frames are not its own. -/
def Frames.carry (fs : Frames) (p : Phase) (f : Byte) : Frames :=
  match p with
  | .h1 => { fs with h1 := some f }
  | .h2 => { fs with h2 := some f }
  | .h3 => { fs with h3 := some f }
  | .c0 => { fs with c0 := some f }
  | .p _ | .c1 | .v => { fs with carried := some f }
  | .idle | .h0 | .a | .l | .complete => fs

/-- The origin held from H0 (R22). -/
def LineEngine.origin (l : LineEngine) : Nibble := hi (l.frames.h0.getD 0)

/-- The kind code held from H0 (R22). -/
def LineEngine.kindField (l : LineEngine) : Nibble := lo (l.frames.h0.getD 0)

/-- The kind of the exchange, where its code is 1 to 4. -/
def LineEngine.kind (l : LineEngine) : Option Kind := Kind.ofCode l.kindField

/-- The target held from H1 (R23). -/
def LineEngine.target (l : LineEngine) : Nibble := hi (l.frames.h1.getD 0)

/-- The URGENT flag held from H1 (R23). -/
def LineEngine.urgentFlag (l : LineEngine) : Bool := (l.frames.h1.getD 0).getLsbD 3

/-- The FIRST flag held from H1 (R23). -/
def LineEngine.firstFlag (l : LineEngine) : Bool := (l.frames.h1.getD 0).getLsbD 2

/-- The two low bits of H1, which must be zero (R23). -/
def LineEngine.lowBits (l : LineEngine) : BitVec 2 := (l.frames.h1.getD 0).extractLsb' 0 2

/-- The tag held from H2 (R24). -/
def LineEngine.tag (l : LineEngine) : Byte := l.frames.h2.getD 0

/-- The length held from H3 (R24). -/
def LineEngine.lengthField (l : LineEngine) : Nat := (l.frames.h3.getD 0).toNat

/-- The payload count: L for a COLLECT (R33), none for a PROBE (R29), otherwise the length in H3. -/
def LineEngine.payloadCount (l : LineEngine) : Nat :=
  match l.kind with
  | some .collect => (l.frames.l.getD 0).toNat
  | some .probe => 0
  | _ => l.lengthField

/-- TABLE 2-5: the phase that follows the frame before the payload. -/
def LineEngine.payloadPhase (l : LineEngine) : Phase := if l.payloadCount = 0 then .c0 else .p 1

/-- TABLE 2-5: the phase that follows Pk. -/
def LineEngine.afterPayload (l : LineEngine) (k : Nat) : Phase :=
  if k < l.payloadCount then .p (k + 1) else .c0

/-- R37: whether the header frames are covered by the check word; in a COLLECT they are not. A kind code that
names no kind has no shape and covers nothing (log 18). -/
def headerCovered : Option Kind → Bool
  | some .data => true
  | some .probe => true
  | some .broadcast => true
  | some .collect => false
  | none => false

/-- R31: the header held is malformed for the addressed node `node`. -/
def LineEngine.malformed (l : LineEngine) (node : Nibble) : Bool :=
  l.kind.isNone
  || l.lowBits != 0
  || (l.origin == 15 || l.origin == node)
  || l.kind == some .broadcast
  || decide (128 < l.lengthField)
  || (l.kind == some .probe && l.lengthField != 0)
  || (l.kind == some .collect && l.lengthField == 0)

/-- R32: the conditions of R31 that can apply to a broadcast, tested by the gathering node `node`. -/
def LineEngine.broadcastMalformed (l : LineEngine) (node : Nibble) : Bool :=
  l.lowBits != 0 || (l.origin == 15 || l.origin == node) || decide (128 < l.lengthField)

/-! ### Operands of the commands (TABLE 11-1) -/

/-- A handle operand: 0 to 7, otherwise none (R191). -/
def handleOperand (b : Byte) : Option Handle := if h : b.toNat < 8 then some ⟨b.toNat, h⟩ else none

/-- An index operand: 0 to 3, otherwise none (R191). -/
def indexOperand (b : Byte) : Option OfferIndex := if h : b.toNat < 4 then some ⟨b.toNat, h⟩ else none

/-- A destination or addressee operand: 0 to 15, otherwise none (R191). -/
def destinationOperand (b : Byte) : Option Nibble := if b.toNat ≤ 15 then some (b.setWidth 4) else none

/-- The number of the item codes' ranges (TABLE 11-2): whether `value` lies in the range of `item`. -/
def itemInRange (item value : Byte) : Bool :=
  if item = 0 then decide (value.toNat ≤ 14)
  else if item = 1 then decide (2 ≤ value.toNat)
  else if item = 2 then decide (8 ≤ value.toNat ∧ value.toNat ≤ 64)
  else if item = 3 then decide (1 ≤ value.toNat ∧ value.toNat ≤ 15)
  else if item = 4 then decide (1 ≤ value.toNat ∧ value.toNat ≤ 8)
  else if item = 5 then decide (value.toNat ≤ 32)
  else if item = 6 then decide (value.toNat ≤ 1)
  else false

/-- Stores `value` as the setting of `item` (TABLE 11-2). -/
def Settings.store (c : Settings) (item value : Byte) : Settings :=
  if item = 0 then { c with node := value.setWidth 4 }
  else if item = 1 then { c with rateDivider := value.toNat }
  else if item = 2 then { c with quietInterval := value.toNat }
  else if item = 3 then { c with backoffBase := value.toNat }
  else if item = 4 then { c with retryLimit := value.toNat }
  else if item = 5 then { c with reserve := value.toNat }
  else if item = 6 then { c with intakeHold := value == 1 }
  else c

end Sys2Proof.Machine
end

