-- ==== Sys2Proof/Machine/Flags.lean ====
section
/-! DEFINITION. The check sums (section 2.5), the counters that hold at 255, the event flags with INT (chapter
10), and the DMA request outputs. -/

namespace Sys2Proof.Machine

/-! ### Check sums -/

/-- Addition modulo 255 (section 2.5). -/
def addMod255 (x y : Byte) : Byte := byte ((x.toNat + y.toNat) % 255)

/-- R36: a covered frame is added to S1, and then the new S1 to S2. -/
def LineEngine.addFrame (l : LineEngine) (frame : Byte) : LineEngine :=
  { l with s1 := addMod255 l.s1 frame, s2 := addMod255 l.s2 (addMod255 l.s1 frame) }

/-- R36 and R37: a header frame is added where it is covered. -/
def LineEngine.addHeaderFrame (l : LineEngine) (frame : Byte) : LineEngine :=
  if headerCovered l.kind then l.addFrame frame else l

/-- R38: the check word test at C1, C0 as held and C1 as read. -/
def LineEngine.checkPasses (l : LineEngine) (c1 : Byte) : Bool :=
  l.frames.c0 == some l.s2 && c1 == l.s1

/-! ### Counters that hold at 255 -/

/-- Section 4, Counters: a statistics counter or a duplicate count rises by one and holds at 255. -/
def countUp (c : Byte) : Byte := if c = 255 then 255 else c + 1

/-! ### Event flags -/

/-- RECEIVED (R154). -/
def State.received (s : State) : Bool := !s.recv.records.isEmpty

/-- REPORT (R182). -/
def State.reportWaiting (s : State) : Bool := !s.reports.records.isEmpty

/-- OFFER TAKEN (R173). -/
def State.offerTaken (s : State) : Bool := s.offers.slots.toList.any (fun o => o.state == .taken)

/-- SUSPENDED (R109). -/
def State.anySuspended (s : State) : Bool := s.queue.dests.toList.any (fun d => d.suspended)

/-- The seven flags at their places in EVENTS (TABLE 11-1): bit 0 RECEIVED to bit 6 WINDOW ERROR. -/
def State.eventFlags (s : State) : BitVec 7 :=
  BitVec.ofBool s.events.windowError ++ BitVec.ofBool s.events.broadcastMissed
    ++ BitVec.ofBool s.events.lineStuck ++ BitVec.ofBool s.anySuspended ++ BitVec.ofBool s.offerTaken
    ++ BitVec.ofBool s.reportWaiting ++ BitVec.ofBool s.received

/-- INT: asserted while a flag is set whose enable is set (R186). -/
def State.int (s : State) : Bool := (s.eventFlags &&& s.events.enables) != 0

/-! ### The staging buffer and the DMA request outputs -/

/-- The length of a staging buffer. -/
def State.bufferLength (s : State) : Buffer → Nat
  | .send h => s.queue.entries[h].length
  | .offer i => s.offers.slots[i].length

/-- FILL REQUEST: the fill cursor is attached and stands below the buffer's length (R187). -/
def State.fillRequest (s : State) : Bool :=
  match s.window.fill with
  | none => false
  | some f => decide (f.position < s.bufferLength f.buffer)

/-- DRAIN REQUEST: the drain cursor is attached to the head and stands below its length (R188). -/
def State.drainRequest (s : State) : Bool :=
  match s.recv.drain, s.recv.records with
  | some n, r :: _ => decide (n < r.length)
  | _, _ => false

end Sys2Proof.Machine
end

