-- ==== Sys2Proof/Machine/Ops.lean ====
section
/-! DEFINITION. The shared operations, block by block: memory and the pool, the Host Window, the send entries and
their finish, suspension and the ends of an attempt, the claim, the Receive List, the Offer Table, and the changes
of state of the Line Engine. Every meaning is built of these. -/

namespace Sys2Proof.Machine

/-! ### Message Memory (chapter 3) -/

/-- What an unlisted address reads as: the value of a zero-filled byte (R43, log 1). -/
def Memory.unlisted : Byte := 0

/-- The byte at an address. -/
def Memory.read : Memory → Nat → Byte
  | [], _ => Memory.unlisted
  | (b, w) :: t, a => if a = b then w else Memory.read t a

/-- A byte put before cells of higher addresses; the value an unlisted address reads as is not listed. -/
def Memory.put (a : Nat) (v : Byte) (t : Memory) : Memory := if v = Memory.unlisted then t else (a, v) :: t

/-- Writes a byte, keeping the canonical form. -/
def Memory.write : Memory → Nat → Byte → Memory
  | [], a, v => Memory.put a v []
  | (b, w) :: t, a, v =>
    if a < b then Memory.put a v ((b, w) :: t)
    else if a = b then Memory.put a v t
    else (b, w) :: Memory.write t a v

/-- R43: the 32 bytes of a cell are set to 0. -/
def Memory.zeroCell (m : Memory) (c : CellNumber) : Memory := m.filter (fun p => p.1 / 32 != c.val)

/-- The canonical form: addresses strictly rising, all within the 2048 bytes, none listed with the value of an
unlisted address. -/
def Memory.wf : Memory → Bool
  | [] => true
  | [(a, v)] => decide (a < 2048) && v != Memory.unlisted
  | (a, v) :: (b, w) :: t => decide (a < b) && v != Memory.unlisted && Memory.wf ((b, w) :: t)

/-- R39: the cells that a message of length n needs. -/
def cellsFor (n : Nat) : Nat := (n + 31) / 32

/-- R39: where byte k of a message lies. None past the chain's last cell. -/
def chainAddress (cells : List CellNumber) (k : Nat) : Option Nat :=
  cells[k / 32]?.map (fun c => 32 * c.val + k % 32)

/-- Byte k of a chain (R45). Past the chain, which no cursor and no frame reaches, it is 0 (log 23). -/
def Pool.readByte (p : Pool) (cells : List CellNumber) (k : Nat) : Byte :=
  match chainAddress cells k with
  | some a => Memory.read p.mem a
  | none => Memory.unlisted

/-- Writes byte k of a chain (R45). Past the chain nothing is written (log 23). -/
def Pool.writeByte (p : Pool) (cells : List CellNumber) (k : Nat) (v : Byte) : Pool :=
  match chainAddress cells k with
  | some a => { p with mem := Memory.write p.mem a v }
  | none => p

/-- The free cells, lowest number first. -/
def Pool.freeCells (p : Pool) : List CellNumber :=
  (List.finRange 64).filter (fun c => p.owners[c] == .free)

/-- The free count (R40). -/
def Pool.freeCount (p : Pool) : Nat := p.freeCells.length

/-- Gives every cell of a chain to an owner, bytes unchanged (R46). -/
def Pool.setOwner (p : Pool) (cells : List CellNumber) (o : Owner) : Pool :=
  { p with owners := cells.foldl (fun v c => v.set c.val o c.isLt) p.owners }

/-- A release: the cells of a chain become FREE (section 3.5). -/
def Pool.release (p : Pool) (cells : List CellNumber) : Pool := p.setOwner cells .free

/-- The chain that an allocation for a message of length n takes: the lowest free cells (R39). -/
def Pool.lowest (p : Pool) (n : Nat) : List CellNumber := p.freeCells.take (cellsFor n)

/-- An allocation that has been granted: the owner takes the cells, which are zero-filled (R41, R42, R43). -/
def Pool.allocate (p : Pool) (n : Nat) (o : Owner) : Pool :=
  { (p.setOwner (p.lowest n) o) with mem := (p.lowest n).foldl Memory.zeroCell p.mem }

/-- R41: a host allocation leaves the reserve free. -/
def Pool.grantsHost (p : Pool) (reserve n : Nat) : Bool := decide (reserve + cellsFor n ≤ p.freeCount)

/-- R42: an intake allocation may use the reserve. -/
def Pool.grantsIntake (p : Pool) (n : Nat) : Bool := decide (cellsFor n ≤ p.freeCount)

namespace State

/-! ### Host Window (chapter 11) -/

/-- Places a result code in RESULT (R191). -/
def withResult (s : State) (r : ResultCode) : State := { s with window := { s.window with result := r } }

/-- Places the second result byte in OPERAND C (R192). -/
def withOperandC (s : State) (b : Byte) : State := { s with window := { s.window with opC := b } }

/-- Moves, attaches or detaches the fill cursor (R196). -/
def withFill (s : State) (f : Option FillCursor) : State := { s with window := { s.window with fill := f } }

/-- A window error (R184): WINDOW ERROR is set and nothing else changes. -/
def windowError (s : State) : State := { s with events := { s.events with windowError := true } }

/-- Replaces the statistics counters. -/
def withStats (s : State) (c : Statistics) : State := { s with window := { s.window with stats := c } }

/-! ### Blocks replaced whole -/

/-- Replaces the Line Engine's state. -/
def withLine (s : State) (l : LineEngine) : State := { s with line := l }

/-- Replaces the Message Memory's state. -/
def withPool (s : State) (p : Pool) : State := { s with pool := p }

/-- Replaces the Receive List's state. -/
def withRecv (s : State) (r : ReceiveList) : State := { s with recv := r }

/-! ### Send entries and destinations (chapters 4 and 6) -/

/-- The send entry of a handle. -/
def entry (s : State) (h : Handle) : SendEntry := s.queue.entries[h]

/-- Replaces the send entry of a handle. -/
def withEntry (s : State) (h : Handle) (e : SendEntry) : State :=
  { s with queue := { s.queue with entries := s.queue.entries.set h e } }

/-- The Destination Table entry of a destination. -/
def dest (s : State) (d : Nibble) : Destination := s.queue.dests[d.toNat]'d.isLt

/-- Replaces the Destination Table entry of a destination. -/
def withDest (s : State) (d : Nibble) (x : Destination) : State :=
  { s with queue := { s.queue with dests := s.queue.dests.set d.toNat x d.isLt } }

/-- No send entry and no offer is STAGING (test 1 of TABLES 4-3 and 9-3). -/
def noStaging (s : State) : Bool :=
  s.queue.entries.toList.all (fun e => e.state != .staging)
  && s.offers.slots.toList.all (fun o => o.state != .staging)

/-- The FREE entry with the lowest handle (R58). -/
def lowestFreeEntry (s : State) : Option Handle :=
  (List.finRange 8).find? (fun h => (s.entry h).state == .free)

/-! ### Finishing (section 4.9) -/

/-- The report of an entry with an outcome (R176). -/
def reportOf (s : State) (h : Handle) (o : Option SendOutcome) : Report :=
  { handle := h, postNumber := (s.entry h).postNumber, dest := (s.entry h).dest, kind := (s.entry h).kind,
    outcome := o, lastReason := (s.entry h).lastReason, attempts := (s.entry h).attempts }

/-- The first two acts of a finish (R74): the entry leaves the post-order list and its chain is released (R48). -/
def leaveQueue (s : State) (h : Handle) : State :=
  { s with
    pool := s.pool.release (s.entry h).cells
    queue := { s.queue with order := s.queue.order.filter (· != h) } }

/-- R74: a finish. The report joins the Report List and the entry becomes FREE, or the entry becomes FINISHED and
joins the waiting list (R177). -/
def finish (s : State) (h : Handle) (o : SendOutcome) : State :=
  if s.reports.records.length < 8 then
    { (s.leaveQueue h).withEntry h .free with
      reports := { s.reports with records := s.reports.records ++ [s.reportOf h (some o)] } }
  else
    { (s.leaveQueue h).withEntry h
        { s.entry h with state := .finished, cells := [], backoff := 0, outcome := some o } with
      reports := { s.reports with waiting := s.reports.waiting ++ [h] } }

/-- R108: an entry to a destination that is suspended becomes HELD if it is READY or BACKOFF, its timer stopped. -/
def holdEntry (d : Nibble) (e : SendEntry) : SendEntry :=
  if e.dest = d ∧ (e.state = .ready ∨ e.state = .backoff) then { e with state := .held, backoff := 0 } else e

/-- R108: destination d is suspended by the entry of a post number. -/
def suspend (s : State) (d : Nibble) (postNumber : Byte) : State :=
  { (s.withDest d { s.dest d with suspended := true, suspendingPost := postNumber }) with
    queue := { (s.withDest d { s.dest d with suspended := true, suspendingPost := postNumber }).queue with
      entries := s.queue.entries.map (holdEntry d) } }

/-- R90: the fresh flag of a destination is cleared. -/
def clearFresh (s : State) (d : Nibble) : State := s.withDest d { s.dest d with fresh := false }

/-- R66: an attempt ends with a finishing outcome. REFUSED suspends the destination (R85); DELIVERED and DELIVERED
DUPLICATE of a DATA clear its fresh flag (R90). -/
def settle (s : State) (h : Handle) (o : SendOutcome) : State :=
  match o with
  | .refused => (s.finish h o).suspend (s.entry h).dest (s.entry h).postNumber
  | .delivered | .deliveredDuplicate =>
    if (s.entry h).kind = some .data then (s.finish h o).clearFresh (s.entry h).dest else s.finish h o
  | .sent | .collected | .empty | .failed | .cancelled | .discarded => s.finish h o

/-- R69: the delay of an entry that goes into BACKOFF. -/
def backoffDelay (s : State) (attempts : Nat) : Nat :=
  attempts * s.window.settings.backoffBase * 16 + s.window.settings.node.toNat * 8

/-- R67: the entry of a consumed attempt, its attempts used and last reason recorded. -/
def countAttempt (s : State) (h : Handle) (r : Reason) : State :=
  s.withEntry h { s.entry h with attempts := (s.entry h).attempts + 1, lastReason := r }

/-- R67: an attempt ends as consumed: CANCELLED if cancel-pending is set, FAILED at the retry limit with its
destination suspended, otherwise BACKOFF (R69). -/
def consume (s : State) (h : Handle) (r : Reason) : State :=
  if (s.entry h).cancelPending then (s.countAttempt h r).finish h .cancelled
  else if (s.entry h).attempts + 1 = (s.entry h).retryLimit then
    ((s.countAttempt h r).finish h .failed).suspend (s.entry h).dest (s.entry h).postNumber
  else
    s.withEntry h
      { s.entry h with
        attempts := (s.entry h).attempts + 1, lastReason := r, state := .backoff
        backoff := s.backoffDelay ((s.entry h).attempts + 1) }

/-- R68: an attempt lost in arbitration or abandoned by LINE OFF: back to READY, or CANCELLED if cancel-pending
is set. No attempt is consumed. -/
def handBack (s : State) (h : Handle) : State :=
  if (s.entry h).cancelPending then s.finish h .cancelled
  else s.withEntry h { s.entry h with state := .ready }

/-! ### Eligibility, selection and the claim (sections 4.4 and 1.4) -/

/-- R145: the committed records plus one while an intake is pending. -/
def occupancy (s : State) : Nat := s.recv.records.length + (if s.recv.intake.isSome then 1 else 0)

/-- The entries older than h in the post-order list (R56). -/
def olderThan (s : State) (h : Handle) : List Handle := s.queue.order.takeWhile (· != h)

/-- R63: an entry of the post-order list is eligible. -/
def eligible (s : State) (h : Handle) : Bool :=
  (s.entry h).state == .ready
  && (s.olderThan h).all (fun g => (s.entry g).dest != (s.entry h).dest)
  && !(s.dest (s.entry h).dest).suspended
  && ((s.entry h).kind != some .collect || decide (s.occupancy < 10))

/-- R65: the oldest eligible URGENT entry, otherwise the oldest eligible ROUTINE entry. -/
def selection (s : State) : Option Handle :=
  (s.queue.order.find? (fun h => s.eligible h && (s.entry h).urgent)).or
    (s.queue.order.find? (fun h => s.eligible h && !(s.entry h).urgent))

/-- R80: whether the header of an entry carries FIRST. -/
def firstFor (s : State) (e : SendEntry) : Bool := e.kind == some .data && (s.dest e.dest).fresh

/-- R7 and R79: the node claims for the entry of handle h: it becomes IN-FLIGHT, the state becomes MASTER, the sums
are cleared, the header is formed and the phase is H0. -/
def claim (s : State) (h : Handle) : State :=
  { s.withEntry h { s.entry h with state := .inFlight } with
    line := { s.line with
      state := .master h, phase := .h0, s1 := 0, s2 := 0, record := .cleared
      frames := formHeader s.window.settings.node (s.entry h) (s.firstFor (s.entry h)) } }

/-- R7: the claim test: in QUIET, hold-off clear, the queue not halted and an entry eligible. -/
def claimTest (s : State) : State :=
  if s.line.state = .quiet ∧ s.line.holdOff = false ∧ s.queue.halted = false then
    match s.selection with
    | some h => s.claim h
    | none => s
  else s

/-! ### Receive List (chapters 7 and 8) -/

/-- R147: a record joins the end of the list with the next arrival number; a list that was empty gets its drain
cursor attached at byte 0. The arrival number in `r` is replaced. -/
def commit (s : State) (r : ReceiveRecord) : State :=
  s.withRecv { s.recv with
    records := s.recv.records ++ [{ r with arrival := s.recv.arrivalCounter }]
    arrivalCounter := s.recv.arrivalCounter + 1
    drain := if s.recv.records.isEmpty then some 0 else s.recv.drain }

/-- R131 and R138: the pending intake is committed as a record of a kind; its cells pass to the record (R46). A
BROADCAST record is ROUTINE. Without an intake nothing is committed. -/
def commitIntake (s : State) (kind : RecordKind) : State :=
  match s.recv.intake with
  | none => s
  | some i =>
    (({ s with
        pool := s.pool.setOwner i.cells .record
        recv := { s.recv with intake := none } } : State).commit
      { arrival := 0, origin := i.origin, kind := kind, urgent := kind == .data && i.urgent, tag := i.tag,
        length := i.length, postNumber := 0, cells := i.cells })

/-- R49: the pending intake, if there is one, is discarded and its cells are freed. -/
def discardIntake (s : State) : State :=
  match s.recv.intake with
  | none => s
  | some i => { s with pool := s.pool.release i.cells, recv := { s.recv with intake := none } }

/-- R124 and R136: the pending intake comes into being with the fields of the header held (R125) and its cells. -/
def beginIntake (s : State) : State :=
  { s with
    pool := s.pool.allocate s.line.lengthField .intake
    recv := { s.recv with
      intake := some
        { origin := s.line.origin, urgent := s.line.urgentFlag, tag := s.line.tag, length := s.line.lengthField
          cells := s.pool.lowest s.line.lengthField } } }

/-- R128 and R136: payload frame Pk is written into byte k − 1 of the intake's chain. -/
def writeIntake (s : State) (k : Nat) (frame : Byte) : State :=
  match s.recv.intake with
  | none => s
  | some i => s.withPool (s.pool.writeByte i.cells (k - 1) frame)

/-- The Source Table entry of an origin; 15 has none and reads as one never seen (R134). -/
def source (s : State) (o : Nibble) : Source :=
  if h : o.toNat < 15 then s.recv.sources[o.toNat] else .reset

/-- Replaces the Source Table entry of an origin 0 to 14 (R134). -/
def withSource (s : State) (o : Nibble) (x : Source) : State :=
  if h : o.toNat < 15 then s.withRecv { s.recv with sources := s.recv.sources.set o.toNat x } else s

/-- R131: the origin becomes seen, with the tag of the message. -/
def noteSource (s : State) (o : Nibble) (tag : Byte) : State :=
  s.withSource o { s.source o with seen := true, lastTag := tag }

/-- R132: the duplicate count of the origin rises by one, holding at 255. -/
def countDuplicate (s : State) (o : Nibble) : State :=
  s.withSource o { s.source o with duplicates := countUp (s.source o).duplicates }

/-- R137: a missed broadcast: the intake is discarded, the counter rises and BROADCAST MISSED is set. -/
def missBroadcast (s : State) : State :=
  { s.discardIntake.withStats
      { s.window.stats with broadcastsMissed := countUp s.window.stats.broadcastsMissed } with
    events := { s.events with broadcastMissed := true } }

/-! ### Offer Table (chapter 9) -/

/-- The offer of an index. -/
def offerAt (s : State) (i : OfferIndex) : Offer := s.offers.slots[i]

/-- Replaces the offer of an index. -/
def withOffer (s : State) (i : OfferIndex) (o : Offer) : State :=
  { s with offers := { s.offers with slots := s.offers.slots.set i o } }

/-- The FREE offer with the lowest index (R159). -/
def lowestFreeOffer (s : State) : Option OfferIndex :=
  (List.finRange 4).find? (fun i => (s.offerAt i).state == .free)

/-- An offer leaves the offer order and its chain is released (R51, R157); it becomes `o`. -/
def dropOffer (s : State) (i : OfferIndex) (o : Offer) : State :=
  { s with
    pool := s.pool.release (s.offerAt i).cells
    offers := { slots := s.offers.slots.set i o, order := s.offers.order.filter (· != i) } }

/-- R167: a service has failed: the offer returns to POSTED in its place, or becomes FREE if withdraw-pending is
set. Withdraw-pending is cleared. -/
def returnOffer (s : State) (i : OfferIndex) : State :=
  if (s.offerAt i).withdrawPending then s.dropOffer i .free
  else s.withOffer i { s.offerAt i with state := .posted, withdrawPending := false }

/-- R166: the offer becomes TAKEN by an origin; its chain is released and withdraw-pending is cleared. -/
def giveOffer (s : State) (i : OfferIndex) (origin : Nibble) : State :=
  s.dropOffer i { s.offerAt i with state := .taken, cells := [], takenBy := origin, withdrawPending := false }

/-- R162: the selection for a COLLECT from origin o with maximum m. -/
def selectOffer (s : State) (o : Nibble) (m : Nat) : Option OfferIndex :=
  let fits (addressee : Nibble) (i : OfferIndex) : Bool :=
    (s.offerAt i).state == .posted && (s.offerAt i).addressee == addressee && decide ((s.offerAt i).length ≤ m)
  (s.offers.order.find? (fits o)).or (s.offers.order.find? (fits 15))

/-! ### The Line Engine's changes of state (chapter 1) -/

/-- The role becomes BYSTANDER: the node drives nothing, assembles no further frames and waits for the release (R118),
so its phase is Complete (TABLE 2-5, R34, log 25). -/
def becomeBystander (s : State) : State :=
  s.withLine { s.line with state := .listener .bystander, phase := .complete }

/-- R5: the state becomes SETTLING with the quiet timer started, the claim-limit timer stopped, and no exchange
held (R116, log 11). -/
def enterSettling (s : State) : State :=
  s.withLine { s.line with
    state := .settling, quietTimer := some 0, claimTimer := none
    phase := .idle, frames := .cleared, record := .cleared }

/-- R12: hold-off is cleared, and the long-quiet timer stops. -/
def clearHoldOff (s : State) : State := s.withLine { s.line with holdOff := false, longQuietTimer := none }

/-- R13: the master ends its own exchange and releases LCL: hold-off is set and the long-quiet timer starts (R12);
the state becomes SETTLING, or LISTENER as BYSTANDER if LCL still reads low, the long-quiet timer stopped. -/
def releaseLine (s : State) (lclLow : Bool) : State :=
  if lclLow then
    s.withLine { s.line with
      state := .listener .bystander, holdOff := true, longQuietTimer := none, claimTimer := some 0
      phase := .complete, frames := .cleared, record := .cleared }
  else
    (s.withLine { s.line with holdOff := true, longQuietTimer := some 0 }).enterSettling

/-- R14, R139, R137, R168: what the role does when its exchange has ended at the phase reached. An ADDRESSED node
that answered ACCEPT is cut short before V has completed (log 17); a GATHERING node that holds an intake misses
the broadcast; a SERVING node returns its offer. -/
def endEarly (s : State) : State :=
  match s.line.state with
  | .listener .addressed =>
    if s.line.record.answer = some .accept ∧ s.line.phase ≠ .complete then
      s.discardIntake.withStats { s.window.stats with cutShort := countUp s.window.stats.cutShort }
    else s
  | .listener .gathering => if s.recv.intake.isSome then s.missBroadcast else s
  | .listener (.serving i) => s.returnOffer i
  | .listener .undecided | .listener .bystander => s
  | .off | .joining | .settling | .quiet | .master _ | .stuck => s

/-- R14, R17, R19: LCL is seen released. In OFF it is no event (R20); in SETTLING, QUIET and MASTER it cannot be
seen (log 5). -/
def seeRelease (s : State) : State :=
  match s.line.state with
  | .listener _ => s.endEarly.clearHoldOff.enterSettling
  | .stuck => s.clearHoldOff.enterSettling
  | .joining => s.enterSettling
  | .off | .settling | .quiet | .master _ => s

/-- R9: the master has lost arbitration: it becomes an UNDECIDED listener that has yet to complete H0 (log 8), the
claim-limit timer starts, CLAIMS LOST rises, and the entry is handed back. Its sums stand as they are (R36). -/
def loseArbitration (s : State) (h : Handle) : State :=
  ((s.handBack h).withStats { s.window.stats with claimsLost := countUp s.window.stats.claimsLost }).withLine
    { s.line with
      state := .listener .undecided, claimTimer := some 0
      phase := .h0, frames := .cleared, record := .cleared }

/-- R10: the master has met a conflict: it becomes a BYSTANDER, the claim-limit timer starts, CONFLICTS rises, and
the attempt is consumed with reason CONFLICT. The phase stays at the frame that differs, whose rest it assembles (R8,
`holdCarried`); as a BYSTANDER it adds nothing to its sums (R118). -/
def meetConflict (s : State) (h : Handle) : State :=
  ((s.consume h .conflict).withStats { s.window.stats with conflicts := countUp s.window.stats.conflicts }).withLine
    { s.line with state := .listener .bystander, claimTimer := some 0, record := .cleared }

/-- R8: the frame in which a master met a difference after H0 has completed: the node, by now a BYSTANDER, holds it as
the line carried it, and assembles no further frame (R118, log 27). -/
def holdCarried (s : State) (frame : Byte) : State :=
  s.withLine { s.line with frames := s.line.frames.carry s.line.phase frame, phase := .complete }

/-- R16, R20: a listener gives up its exchange from inside: a pending intake is discarded and an offer in SERVING is
returned. Nothing is counted (R140). -/
def giveUp (s : State) : State :=
  match s.line.state with
  | .listener (.serving i) => s.discardIntake.returnOffer i
  | .listener _ => s.discardIntake
  | .off | .joining | .settling | .quiet | .master _ | .stuck => s

/-- R20: the Line Engine disabled: nothing driven, every timer stopped, hold-off, role, phase, held frames and sums
cleared (TABLE 1-4). -/
def lineDisabled (s : State) : State := s.withLine .reset

/-- The covered frame is added to the sums and the phase moves on (R34). -/
def advance (s : State) (covered : Option Byte) (next : Phase) : State :=
  match covered with
  | some f => s.withLine { s.line.addFrame f with phase := next }
  | none => s.withLine { s.line with phase := next }

/-! ### Frames driven (R35, TABLE 2-4) -/

/-- The frame that the master of handle h now drives on LMD in a frame it owns (R81); none where it drives 0xFF
(R82). -/
def masterFrame (s : State) (h : Handle) : Option Byte :=
  match s.line.phase with
  | .h0 => s.line.frames.h0
  | .h1 => s.line.frames.h1
  | .h2 => s.line.frames.h2
  | .h3 => s.line.frames.h3
  | .p k => if s.line.kind = some .collect then none else some (s.pool.readByte (s.entry h).cells (k - 1))
  | .c0 => if s.line.kind = some .collect then none else some s.line.s2
  | .c1 => if s.line.kind = some .collect then none else some s.line.s1
  | .v => if s.line.kind = some .collect then s.line.record.verdict.map Verdict.code else none
  | .a | .l | .idle | .complete => none

/-- The frame that an ADDRESSED node now drives on LRD (R127, R129). -/
def targetFrame (s : State) : Option Byte :=
  match s.line.phase with
  | .a => s.line.record.answer.map Answer.code
  | .v => s.line.record.verdict.map Verdict.code
  | .h0 | .h1 | .h2 | .h3 | .l | .p _ | .c0 | .c1 | .idle | .complete => none

/-- The frame that the server of offer i now drives on LRD (R164). -/
def serverFrame (s : State) (i : OfferIndex) : Option Byte :=
  match s.line.phase with
  | .a => some Answer.accept.code
  | .l => some (byte (s.offerAt i).length)
  | .p k => some (s.pool.readByte (s.offerAt i).cells (k - 1))
  | .c0 => some s.line.s2
  | .c1 => some s.line.s1
  | .h0 | .h1 | .h2 | .h3 | .v | .idle | .complete => none

/-- LCL is pulled exactly while the Line Engine is MASTER (R1). -/
def pullsLcl (s : State) : Bool :=
  match s.line.state with
  | .master _ => true
  | .off | .joining | .settling | .quiet | .listener _ | .stuck => false

/-- LCK is driven, one cycle for each bit, exactly while the Line Engine is MASTER; a master that stops driving leaves
it released at once, and listeners never drive it (R2). -/
def drivesLck (s : State) : Bool :=
  match s.line.state with
  | .master _ => true
  | .off | .joining | .settling | .quiet | .listener _ | .stuck => false

/-- What this node puts on LMD in the frame under way; 0xFF is LMD left released (R3). -/
def lmdFrame (s : State) : Byte :=
  match s.line.state with
  | .master h => (s.masterFrame h).getD 0xFF
  | .off | .joining | .settling | .quiet | .listener _ | .stuck => 0xFF

/-- What this node puts on LRD in the frame under way; 0xFF is LRD left released (R3). -/
def lrdFrame (s : State) : Byte :=
  match s.line.state with
  | .listener .addressed => s.targetFrame.getD 0xFF
  | .listener (.serving i) => (s.serverFrame i).getD 0xFF
  | .listener .undecided | .listener .gathering | .listener .bystander => 0xFF
  | .off | .joining | .settling | .quiet | .master _ | .stuck => 0xFF

end State
end Sys2Proof.Machine
end

