-- ==== Sys2Proof/WellFormed.lean ====
section
/-! DEFINITION. Which command terms are commands of their row. The types of the operands say most of it; the one
check left is that the code of an UNKNOWN_COMMAND names no command. -/

namespace Sys2Proof

/-- Whether a byte written to COMMAND names a command of TABLE 11-1 (R191). -/
def namesCommand (code : Byte) : Bool := (commandOfCode code false).isSome

/-- A term is a command of its row. Every other command is well formed by the types of its operands. -/
def Instr.wellFormed : Instr → Bool
  | .unknownCommand code => !namesCommand code
  | _ => true

end Sys2Proof
end

