-- ==== Sys2Proof/Machine/Control.lean ====
section
/-! DEFINITION. POWER_ON, CONFIGURE, LINE_ON, LINE_OFF, SOFT_RESET, CLEAR_STATISTICS and UNKNOWN_COMMAND. -/

namespace Sys2Proof.Machine

/-- POWER_ON (R202): every block at its power-on values. The queue of commands and the counter of free values are
the model's and stay (log 21). -/
def execPowerOn (s : State) : Res :=
  .next { State.reset with pending := s.pending, expiryCount := s.expiryCount }

/-- R194, test 4: every send entry and every offer is FREE. -/
def State.allFree (s : State) : Bool :=
  s.queue.entries.toList.all (fun e => e.state == .free) && s.offers.slots.toList.all (fun o => o.state == .free)

/-- The result that the tests of R194 give; `done` when all pass. -/
def State.configureResult (s : State) : ResultCode :=
  if s.line.state ≠ .off then .lineOn
  else if 6 < s.window.opA.toNat then .badValue
  else if itemInRange s.window.opA s.window.opB = false then .badValue
  else if s.window.opA = 0 ∧ s.allFree = false then .badState
  else .done

/-- CONFIGURE (R194): item code in OPERAND A, value in OPERAND B. -/
def execConfigure (s : State) : Res :=
  match s.configureResult with
  | .done =>
    .next { s with window := { s.window with
      result := .done, settings := s.window.settings.store s.window.opA s.window.opB } }
  | r => .next (s.withResult r)

/-- LINE_ON (R18): in OFF, SETTLING with the quiet timer started, or JOINING with the claim-limit timer started if
LCL reads low; in every other state no effect. -/
def execLineOn (lclLow : Bool) (s : State) : Res :=
  if s.line.state = .off then
    .next ((s.withLine
      (if lclLow then { LineEngine.reset with state := .joining, claimTimer := some 0 }
       else { LineEngine.reset with state := .settling, quietTimer := some 0 })).withResult .done)
  else .next (s.withResult .done)

/-- LINE_OFF (R20, R102, R140): as MASTER the IN-FLIGHT entry is handed back as abandoned; as LISTENER the exchange
is given up; the Line Engine is disabled. In OFF no effect. -/
def execLineOff (s : State) : Res :=
  match s.line.state with
  | .master h => .next ((s.handBack h).lineDisabled.withResult .done)
  | .listener _ => .next (s.giveUp.lineDisabled.withResult .done)
  | .joining | .settling | .quiet | .stuck => .next (s.lineDisabled.withResult .done)
  | .off => .next (s.withResult .done)

/-- SOFT_RESET (R203): every block at its power-on values but the configuration store. The cells keep their
contents, unreachable until an allocation zero-fills them (R54, TABLE 3-5). The model's own fields stay (log 21). -/
def execSoftReset (s : State) : Res :=
  .next { State.reset with
    pool := { Pool.reset with mem := s.pool.mem }
    window := { HostWindow.reset with settings := s.window.settings }
    busData := s.busData, expiryCount := s.expiryCount, pending := s.pending }

/-- CLEAR_STATISTICS (R201): the six counters go to 0. -/
def execClearStatistics (s : State) : Res := .next ((s.withStats .zero).withResult .done)

/-- UNKNOWN_COMMAND (R191): RESULT gives UNKNOWN COMMAND and nothing else changes. A code that names a command is no
command of this row (log 13). -/
def execUnknownCommand (code : Byte) (s : State) : Res :=
  if namesCommand code then .refused .notAnUnknownCommand else .next (s.withResult .unknownCommand)

end Sys2Proof.Machine
end

