-- ==== Sys2Proof/Machine/HeaderFrames.lean ====
section
/-! DEFINITION. The completion of the header frames: H0_COMPLETES to H3_COMPLETES, with the role taken at H1, and
admission and gathering at H3. A frame that completes in another phase, or at a node that assembles no frames, is
no event for the node and changes nothing (R3, R118, log 5). A master whose frame comes back different has met the
difference at the completion at the latest, and withdraws (R8, log 6). A BYSTANDER in the phase of a frame is a master
that has withdrawn in it, and holds the frame when it completes (R8, log 27). -/

namespace Sys2Proof.Machine

namespace State

/-- A header frame of the master has completed unchanged (R34). -/
def headerDriven (s : State) (frame : Byte) (next : Phase) : State :=
  s.withLine { s.line.addHeaderFrame frame with phase := next }

/-- A header frame is held as read, and added where it is covered (R34). -/
def headerRead (s : State) (frames : Frames) (frame : Byte) (next : Phase) : State :=
  s.withLine { ({ s.line with frames := frames } : LineEngine).addHeaderFrame frame with phase := next }

/-- H0 completes at a listener: held and, where its kind covers it, added (R9, R22, R36). -/
def readH0 (s : State) (lmd : Byte) : State := s.headerRead { s.line.frames with h0 := some lmd } lmd .h1

end State

/-- H0_COMPLETES (R22, R9). -/
def execH0Completes (lmd : Byte) (s : State) : Res :=
  match s.line.state, s.line.phase with
  | .master h, .h0 =>
    if s.masterFrame h = some lmd then .next (s.headerDriven lmd .h1)
    else .next ((s.loseArbitration h).readH0 lmd)
  | .listener .undecided, .h0 => .next (s.readH0 lmd)
  | _, _ => .next s

/-- R117, TABLE 7-1: the role taken at H1 by the node of a number. -/
def roleAtH1 (node target : Nibble) (kind : Option Kind) : Role :=
  if target = node then .addressed
  else if target = 15 ∧ kind = some .broadcast then .gathering
  else .bystander

/-- The role taken at H1 (R117). -/
def State.takeRole (s : State) : State :=
  match roleAtH1 s.window.settings.node s.line.target s.line.kind with
  | .bystander => s.becomeBystander
  | r => s.withLine { s.line with state := .listener r }

/-- H1 completes at an UNDECIDED listener: held, added where covered, and the role taken (R117). -/
def State.readH1 (s : State) (lmd : Byte) : State :=
  (s.headerRead { s.line.frames with h1 := some lmd } lmd .h2).takeRole

/-- H1_COMPLETES (R23, R117). -/
def execH1Completes (lmd : Byte) (s : State) : Res :=
  match s.line.state, s.line.phase with
  | .master h, .h1 =>
    if s.masterFrame h = some lmd then .next (s.headerDriven lmd .h2)
    else .next ((s.meetConflict h).holdCarried lmd)
  | .listener .bystander, .h1 => .next (s.holdCarried lmd)
  | .listener .undecided, .h1 => .next (s.readH1 lmd)
  | _, _ => .next s

/-- H2 completes at a listener (R24). -/
def State.readH2 (s : State) (lmd : Byte) : State := s.headerRead { s.line.frames with h2 := some lmd } lmd .h3

/-- H2_COMPLETES (R24). -/
def execH2Completes (lmd : Byte) (s : State) : Res :=
  match s.line.state, s.line.phase with
  | .master h, .h2 =>
    if s.masterFrame h = some lmd then .next (s.headerDriven lmd .h3)
    else .next ((s.meetConflict h).holdCarried lmd)
  | .listener .bystander, .h2 => .next (s.holdCarried lmd)
  | .listener .addressed, .h2 => .next (s.readH2 lmd)
  | .listener .gathering, .h2 => .next (s.readH2 lmd)
  | _, _ => .next s

/-! ### Admission and gathering at H3 -/

namespace State

/-- The answer and the path are recorded in the listener record (R119). -/
def withAnswer (s : State) (a : Answer) (p : Path) : State :=
  s.withLine { s.line with record := { s.line.record with answer := some a, path := p } }

/-- R123: a DATA with FIRST clear whose origin is seen and whose tag is the origin's last tag. -/
def isDuplicate (s : State) : Bool :=
  !s.line.firstFlag && (s.source s.line.origin).seen && (s.source s.line.origin).lastTag == s.line.tag

/-- R124: the place test: the occupancy below 12 for URGENT, below 10 for ROUTINE. -/
def placeTest (s : State) : Bool := decide (s.occupancy < if s.line.urgentFlag then 12 else 10)

/-- R124: the cell test (R42). -/
def cellTest (s : State) : Bool := s.pool.grantsIntake s.line.lengthField

/-- R124: BUSY given for want of a place or of cells. -/
def refuseBusy (s : State) : State :=
  (s.withAnswer .busy .none).withStats { s.window.stats with busyGiven := countUp s.window.stats.busyGiven }

/-- Steps 5 to 7 of TABLE 7-2, for a DATA. -/
def admitData (s : State) : State :=
  if s.isDuplicate then s.withAnswer .accept .duplicate
  else if s.placeTest && s.cellTest then s.beginIntake.withAnswer .accept .new
  else s.refuseBusy

/-- R161: a COLLECT that has passed the first two tests: the offer selected becomes SERVING, and so does the role. -/
def admitCollect (s : State) : State :=
  match s.selectOffer s.line.origin s.line.lengthField with
  | none => s.withAnswer .noOffer .none
  | some i =>
    (s.withOffer i { s.offerAt i with state := .serving }).withLine
      { s.line with
        state := .listener (.serving i)
        record := { s.line.record with answer := some .accept, path := .none } }

/-- The answer while intake hold is set (R121). -/
def holdAnswer (k : Option Kind) : Answer := if k = some .collect then .noOffer else .busy

/-- R119, TABLE 7-2: the tests of admission in order. -/
def admission (s : State) : State :=
  if s.line.malformed s.window.settings.node then s.withAnswer .malformed .none
  else if s.window.settings.intakeHold then s.withAnswer (holdAnswer s.line.kind) .none
  else match s.line.kind with
    | some .probe => s.withAnswer .accept .probe
    | some .collect => s.admitCollect
    | some .data => s.admitData
    | some .broadcast | none => s

/-- R136: a gathering node tests the header (R32), and takes the broadcast or misses it (R137). -/
def gather (s : State) : State :=
  if s.line.broadcastMalformed s.window.settings.node then s.becomeBystander
  else if s.window.settings.intakeHold || decide (10 ≤ s.occupancy) || !s.cellTest then
    s.missBroadcast.becomeBystander
  else s.beginIntake

/-- H3 completes at a listener (R24). -/
def readH3 (s : State) (lmd : Byte) : State := s.headerRead { s.line.frames with h3 := some lmd } lmd .a

end State

/-- H3_COMPLETES (R119, R136, R161). -/
def execH3Completes (lmd : Byte) (s : State) : Res :=
  match s.line.state, s.line.phase with
  | .master h, .h3 =>
    if s.masterFrame h = some lmd then .next (s.headerDriven lmd .a)
    else .next ((s.meetConflict h).holdCarried lmd)
  | .listener .bystander, .h3 => .next (s.holdCarried lmd)
  | .listener .addressed, .h3 => .next (s.readH3 lmd).admission
  | .listener .gathering, .h3 => .next (s.readH3 lmd).gather
  | _, _ => .next s

end Sys2Proof.Machine
end

