-- ==== Sys2Proof/Machine/LineEvents.lean ====
section
/-! DEFINITION. The events of the line below the frame: LCL_SEEN_GOING_LOW, LCL_SEEN_RELEASED, LOST_ARBITRATION,
CONFLICT. An event that cannot be seen in the state is none and changes nothing (log 5). -/

namespace Sys2Proof.Machine

/-- R6: another node has begun an exchange: LISTENER as UNDECIDED, the quiet and long-quiet timers stopped, the
claim-limit timer started, sums, held frames and listener record cleared, and the phase at H0. Hold-off stays. -/
def State.beginListening (s : State) : State :=
  s.withLine { s.line with
    state := .listener .undecided, phase := .h0, frames := .cleared, record := .cleared, s1 := 0, s2 := 0
    quietTimer := none, longQuietTimer := none, claimTimer := some 0 }

/-- LCL_SEEN_GOING_LOW (R6): an event in SETTLING and QUIET only. -/
def execLclSeenGoingLow (s : State) : Res :=
  match s.line.state with
  | .settling | .quiet => .next s.beginListening
  | .off | .joining | .master _ | .listener _ | .stuck => .next s

/-- LCL_SEEN_RELEASED (R14, R17, R19). -/
def execLclSeenReleased (s : State) : Res := .next s.seeRelease

/-- LOST_ARBITRATION (R9): the master's readback of H0 differs. If no other node holds LCL, the end of its pull is
seen as a release at once. -/
def execLostArbitration (lclLow : Bool) (s : State) : Res :=
  match s.line.state, s.line.phase with
  | .master h, .h0 =>
    if lclLow then .next (s.loseArbitration h) else .next (s.loseArbitration h).seeRelease
  | _, _ => .next s

/-- CONFLICT (R10): the master's readback differs in a frame it owns after H0. If no other node holds LCL, the end of
its pull is seen as a release at once. -/
def execConflict (lclLow : Bool) (s : State) : Res :=
  match s.line.state with
  | .master h =>
    if s.line.phase ≠ .h0 ∧ (s.masterFrame h).isSome = true then
      if lclLow then .next (s.meetConflict h) else .next (s.meetConflict h).seeRelease
    else .next s
  | .off | .joining | .settling | .quiet | .listener _ | .stuck => .next s

end Sys2Proof.Machine
end

