-- ==== Sys2Proof/Machine/ListCommands.lean ====
section
/-! DEFINITION. The commands of the Receive List and the Report List: TAKE, TAKE_REPORT. -/

namespace Sys2Proof.Machine

/-- R152: the head record leaves, its chain is released, and the drain cursor goes to the next head or detaches. -/
def State.takeHead (s : State) (head : ReceiveRecord) (rest : List ReceiveRecord) : State :=
  { s with
    pool := s.pool.release head.cells
    recv := { s.recv with records := rest, drain := if rest.isEmpty then none else some 0 } }

/-- TAKE (R152): the head record is removed and the claim test is made, or EMPTY. -/
def execTake (s : State) : Res :=
  match s.recv.records with
  | [] => .next (s.withResult .empty)
  | head :: rest => .next ((s.takeHead head rest).withResult .done).claimTest

/-- R178: the head report leaves; the oldest FINISHED entry's report moves in and that entry becomes FREE. -/
def State.takeHeadReport (s : State) (rest : List Report) : State :=
  match s.reports.waiting with
  | [] => { s with reports := { s.reports with records := rest } }
  | h :: waiting =>
    { s.withEntry h .free with
      reports := { records := rest ++ [s.reportOf h (s.entry h).outcome], waiting := waiting } }

/-- TAKE_REPORT (R178), or EMPTY. -/
def execTakeReport (s : State) : Res :=
  match s.reports.records with
  | [] => .next (s.withResult .empty)
  | _ :: rest => .next ((s.takeHeadReport rest).withResult .done)

end Sys2Proof.Machine
end

