-- ==== Sys2Proof/Machine/MessageFrames.lean ====
section
/-! DEFINITION. The completion of the frames after the header: A, L, the payload, C0, C1 and V, at the master, at an
ADDRESSED, a GATHERING and a SERVING node. A frame that completes in another phase, or at a node that assembles no
frames, is no event for the node and changes nothing (R3, R34, R118, log 5). A BYSTANDER in the phase of a frame is a
master that has withdrawn in it, and holds the frame when it completes (R8, log 27). -/

namespace Sys2Proof.Machine

namespace State

/-- The phase moves on; the frame is not covered. -/
def toPhase (s : State) (p : Phase) : State := s.withLine { s.line with phase := p }

/-- R165: a frame the server drove has come back different: it returns its offer and becomes BYSTANDER. -/
def serverWithdraws (s : State) (i : OfferIndex) : State := (s.returnOffer i).becomeBystander

/-- L or Pk, a covered frame that the server drove, has come back different: it is first added to the sums (R34), as the
server drove it (R164, log 26), and the server then withdraws. -/
def serverWithdrawsAt (s : State) (i : OfferIndex) (driven : Byte) : State :=
  (s.withLine (s.line.addFrame driven)).serverWithdraws i

/-- R127, R133: a frame the target drove has come back different: the intake, if any, is discarded and the node becomes
BYSTANDER. -/
def targetWithdraws (s : State) : State := s.discardIntake.becomeBystander

/-- R10 at the completion of the frame that differs (R8), which says how LCL then reads. -/
def conflictWith (s : State) (h : Handle) (frame : Byte) (lclLow : Bool) : State :=
  if lclLow then (s.meetConflict h).holdCarried frame else ((s.meetConflict h).holdCarried frame).seeRelease

/-- R13 with a consumed attempt (R67). -/
def endConsumed (s : State) (h : Handle) (r : Reason) (lclLow : Bool) : State := (s.consume h r).releaseLine lclLow

/-- R13 with a finishing outcome (R66). -/
def endSettled (s : State) (h : Handle) (o : SendOutcome) (lclLow : Bool) : State := (s.settle h o).releaseLine lclLow

end State

/-! ### A -/

/-- R83, TABLE 5-1: the answer read by the master of a DATA, PROBE or COLLECT. -/
def State.answerRead (s : State) (h : Handle) (k : Kind) (lrd : Byte) (lclLow : Bool) : State :=
  match classAnswer k lrd with
  | .accept => if k = .collect then s.toPhase .l else s.toPhase s.line.payloadPhase
  | .busy => s.endConsumed h .busy lclLow
  | .noAnswer => s.endConsumed h .noAnswer lclLow
  | .unclear => s.endConsumed h .unclear lclLow
  | .malformed => s.endSettled h .refused lclLow
  | .noOffer => s.endSettled h .empty lclLow

/-- R127: A has completed at the ADDRESSED node that drove it. -/
def State.answerDriven (s : State) (lrd : Byte) : State :=
  match s.line.record.answer with
  | none => s
  | some a =>
    if lrd = a.code then (if a = .accept then s.toPhase s.line.payloadPhase else s.becomeBystander)
    else s.targetWithdraws

/-- A_COMPLETES (R83, R127, R165). The master of a BROADCAST discards A (R91), as a GATHERING node does (R34). -/
def execACompletes (lrd : Byte) (lclLow : Bool) (s : State) : Res :=
  match s.line.state, s.line.phase with
  | .master h, .a =>
    match s.line.kind with
    | some .broadcast => .next (s.toPhase s.line.payloadPhase)
    | some k => .next (s.answerRead h k lrd lclLow)
    | none => .next s
  | .listener .addressed, .a => .next (s.answerDriven lrd)
  | .listener .gathering, .a => .next (s.toPhase s.line.payloadPhase)
  | .listener (.serving i), .a =>
    if s.serverFrame i = some lrd then .next (s.toPhase .l) else .next (s.serverWithdraws i)
  | _, _ => .next s

/-! ### L -/

/-- L is taken as the payload count and added as the first covered frame (R93, R164). -/
def State.takeL (s : State) (lrd : Byte) : State :=
  let l := ({ s.line with frames := { s.line.frames with l := some lrd } } : LineEngine).addFrame lrd
  s.withLine { l with phase := l.payloadPhase }

/-- L_COMPLETES (R93, R164, R165): the collector compares L with its maximum. -/
def execLCompletes (lrd : Byte) (lclLow : Bool) (s : State) : Res :=
  match s.line.state, s.line.phase with
  | .master h, .l =>
    if lrd.toNat ≤ (s.entry h).length then .next (s.takeL lrd) else .next (s.endConsumed h .unclear lclLow)
  | .listener (.serving i), .l =>
    if s.serverFrame i = some lrd then .next (s.takeL lrd)
    else .next (s.serverWithdrawsAt i (byte (s.offerAt i).length))
  | _, _ => .next s

/-! ### The payload -/

/-- R94: the collector writes the frame into byte k − 1 of its entry's chain. -/
def State.writeReply (s : State) (h : Handle) (k : Nat) (frame : Byte) : State :=
  s.withPool (s.pool.writeByte (s.entry h).cells (k - 1) frame)

/-- R128: on the new path the frame is stored; on the duplicate path it is dropped. -/
def State.storePayload (s : State) (k : Nat) (frame : Byte) : State :=
  if s.line.record.path = .new then s.writeIntake k frame else s

/-- PAYLOAD_FRAME_COMPLETES (R87, R94, R128, R136, R164): Pk, with k from the phase. -/
def execPayloadFrameCompletes (lmd lrd : Byte) (s : State) : Res :=
  match s.line.state, s.line.phase with
  | .master h, .p k =>
    if s.line.kind = some .collect then
      .next ((s.writeReply h k lrd).advance (some lrd) (s.line.afterPayload k))
    else if s.masterFrame h = some lmd then .next (s.advance (some lmd) (s.line.afterPayload k))
    else .next ((s.meetConflict h).holdCarried lmd)
  | .listener .addressed, .p k =>
    .next ((s.storePayload k lmd).advance (some lmd) (s.line.afterPayload k))
  | .listener .gathering, .p k => .next ((s.writeIntake k lmd).advance (some lmd) (s.line.afterPayload k))
  | .listener (.serving i), .p k =>
    if s.serverFrame i = some lrd then .next (s.advance (some lrd) (s.line.afterPayload k))
    else .next (s.serverWithdrawsAt i (s.pool.readByte (s.offerAt i).cells (k - 1)))
  | .listener .bystander, .p _ => .next (s.holdCarried lmd)
  | _, _ => .next s

/-! ### C0 and C1 -/

/-- C0 is held as read, not added to the sums (R37, R38). -/
def State.holdC0 (s : State) (frame : Byte) : State :=
  s.withLine { s.line with frames := { s.line.frames with c0 := some frame }, phase := .c1 }

/-- C0_COMPLETES (R37, R87, R164). -/
def execC0Completes (lmd lrd : Byte) (s : State) : Res :=
  match s.line.state, s.line.phase with
  | .master h, .c0 =>
    if s.line.kind = some .collect then .next (s.holdC0 lrd)
    else if s.masterFrame h = some lmd then .next (s.holdC0 lmd)
    else .next ((s.meetConflict h).holdCarried lmd)
  | .listener .addressed, .c0 => .next (s.holdC0 lmd)
  | .listener .gathering, .c0 => .next (s.holdC0 lmd)
  | .listener (.serving i), .c0 =>
    if s.serverFrame i = some lrd then .next (s.holdC0 lrd) else .next (s.serverWithdraws i)
  | .listener .bystander, .c0 => .next (s.holdCarried lmd)
  | _, _ => .next s

/-- A verdict is decided, and the phase moves to V. -/
def State.decideVerdict (s : State) (v : Verdict) : State :=
  s.withLine { s.line with record := { s.line.record with verdict := some v }, phase := .v }

/-- R129, TABLE 7-3: the verdict of an addressed node by its path and the check word. -/
def verdictFor (p : Path) (passes : Bool) : Verdict :=
  if passes then (if p = .duplicate then .goodDuplicate else .good) else .check

/-- R129, R130: the addressed node decides its verdict; CHECK discards the intake now. -/
def State.targetVerdict (s : State) (c1 : Byte) : State :=
  if s.line.checkPasses c1 then s.decideVerdict (verdictFor s.line.record.path true)
  else s.discardIntake.decideVerdict .check

/-- R138: a gathered broadcast is committed at C1 if its check word passes, and missed otherwise. -/
def State.gatherVerdict (s : State) (c1 : Byte) : State :=
  if s.line.checkPasses c1 then (s.commitIntake .broadcast).toPhase .complete
  else s.missBroadcast.becomeBystander

/-- C1_COMPLETES (R91, R94, R95, R129, R138, R164): a BROADCAST master ends SENT. -/
def execC1Completes (lmd lrd : Byte) (lclLow : Bool) (s : State) : Res :=
  match s.line.state, s.line.phase with
  | .master h, .c1 =>
    if s.line.kind = some .collect then
      .next (s.decideVerdict (if s.line.checkPasses lrd then .good else .check))
    else if s.masterFrame h = some lmd then
      if s.line.kind = some .broadcast then .next (s.endSettled h .sent lclLow) else .next (s.toPhase .v)
    else .next (s.conflictWith h lmd lclLow)
  | .listener .addressed, .c1 => .next (s.targetVerdict lmd)
  | .listener .gathering, .c1 => .next (s.gatherVerdict lmd)
  | .listener (.serving i), .c1 =>
    if s.serverFrame i = some lrd then .next (s.toPhase .v) else .next (s.serverWithdraws i)
  | .listener .bystander, .c1 => .next (s.holdCarried lmd)
  | _, _ => .next s

/-! ### V -/

/-- R47: the first cells of the collecting entry's chain, as many as L needs. -/
def State.replyCells (s : State) (h : Handle) : List CellNumber :=
  (s.entry h).cells.take (cellsFor s.line.payloadCount)

/-- R96: the REPLY record of the entry of handle h (R148). -/
def State.replyRecord (s : State) (h : Handle) : ReceiveRecord :=
  { arrival := 0, origin := (s.entry h).dest, kind := .reply, urgent := false, tag := 0
    length := s.line.payloadCount, postNumber := (s.entry h).postNumber, cells := s.replyCells h }

/-- R96 and R47: the REPLY record is committed with the cells it needs; the entry keeps the surplus, which its finish
COLLECTED releases. -/
def State.collected (s : State) (h : Handle) : State :=
  ((((s.withPool (s.pool.setOwner (s.replyCells h) .record)).withEntry h
        { s.entry h with cells := (s.entry h).cells.drop (cellsFor s.line.payloadCount) }).commit
      (s.replyRecord h))).settle h .collected

/-- R88, R89: the verdict read by the master of a DATA or PROBE. -/
def State.verdictRead (s : State) (h : Handle) (lrd : Byte) (lclLow : Bool) : State :=
  match classVerdict lrd with
  | some .good => s.endSettled h .delivered lclLow
  | some .goodDuplicate => s.endSettled h .deliveredDuplicate lclLow
  | some .check => s.endConsumed h .check lclLow
  | none => s.endConsumed h .unclear lclLow

/-- R96, R97: the collector's own verdict has completed unchanged. -/
def State.collectorEnds (s : State) (h : Handle) (lclLow : Bool) : State :=
  if s.line.record.verdict = some .good then (s.collected h).releaseLine lclLow
  else s.endConsumed h .check lclLow

/-- R131, R132: what the target does at a verdict other than CHECK that completed unchanged, by its path. -/
def State.verdictStands (s : State) : State :=
  match s.line.record.path with
  | .new => (s.commitIntake .data).noteSource s.line.origin s.line.tag
  | .duplicate => s.countDuplicate s.line.origin
  | .probe | .none => s

/-- R130 to R133: V has completed at the ADDRESSED node that drove it. -/
def State.verdictDriven (s : State) (lrd : Byte) : State :=
  match s.line.record.verdict with
  | none => s
  | some .check => s.becomeBystander
  | some v => if lrd = v.code then s.verdictStands.toPhase .complete else s.targetWithdraws

/-- R166, R167: the server classes V: GOOD makes the offer TAKEN, anything else returns it. -/
def State.serverVerdict (s : State) (i : OfferIndex) (lmd : Byte) : State :=
  if lmd = Verdict.good.code then (s.giveOffer i s.line.origin).becomeBystander else s.serverWithdraws i

/-- V_COMPLETES (R88, R89, R95 to R97, R130 to R133, R166, R167). -/
def execVCompletes (lmd lrd : Byte) (lclLow : Bool) (s : State) : Res :=
  match s.line.state, s.line.phase with
  | .master h, .v =>
    if s.line.kind = some .collect then
      if s.masterFrame h = some lmd then .next (s.collectorEnds h lclLow) else .next (s.conflictWith h lmd lclLow)
    else .next (s.verdictRead h lrd lclLow)
  | .listener .addressed, .v => .next (s.verdictDriven lrd)
  | .listener (.serving i), .v => .next (s.serverVerdict i lmd)
  | .listener .bystander, .v => .next (s.holdCarried lmd)
  | _, _ => .next s

end Sys2Proof.Machine
end

