-- ==== Sys2Proof/Machine/OfferCommands.lean ====
section
/-! DEFINITION. The commands of the Offer Table: OPEN_OFFER, POST_OFFER, WITHDRAW, CLEAR_OFFER. -/

namespace Sys2Proof.Machine

/-- The tests of OPEN OFFER in order (TABLE 9-3): the result of the first that fails, or the index to open and the
addressee. -/
def State.openOfferTests (s : State) : Except ResultCode (OfferIndex × Nibble) :=
  if s.noStaging = false then .error .badState
  else if 128 < s.window.opA.toNat then .error .badLength
  else match destinationOperand s.window.opB with
    | none => .error .badDestination
    | some addressee =>
      if addressee = s.window.settings.node then .error .badDestination
      else match s.lowestFreeOffer with
        | none => .error .noSlot
        | some i =>
          if s.pool.grantsHost s.window.settings.reserve s.window.opA.toNat then .ok (i, addressee)
          else .error .noCells

/-- R159: the offer of index i is opened as the staging buffer of a length, for an addressee. -/
def State.openOffer (s : State) (i : OfferIndex) (length : Nat) (addressee : Nibble) : State :=
  ((((s.withPool (s.pool.allocate length (.offer i))).withOffer i
        { state := .staging, addressee := addressee, length := length, cells := s.pool.lowest length
          takenBy := 0, withdrawPending := false }).withFill
      (some { buffer := .offer i, position := 0 })).withOperandC (byte i.val)).withResult .done

/-- OPEN_OFFER (R158, R159, R192): the length in OPERAND A, the addressee in OPERAND B. -/
def execOpenOffer (s : State) : Res :=
  match s.openOfferTests with
  | .error r => .next (s.withResult r)
  | .ok (i, addressee) => .next (s.openOffer i s.window.opA.toNat addressee)

/-- R160: a STAGING offer becomes POSTED at the end of the offer order, and the fill cursor is detached. -/
def State.postOffer (s : State) (i : OfferIndex) : State :=
  ({ s with offers :=
      { slots := s.offers.slots.set i { s.offerAt i with state := .posted }
        order := s.offers.order ++ [i] } } : State).withFill none

/-- POST_OFFER (R160): the index in OPERAND A. -/
def execPostOffer (s : State) : Res :=
  match indexOperand s.window.opA with
  | none => .next (s.withResult .badHandle)
  | some i =>
    if (s.offerAt i).state = .staging then .next ((s.postOffer i).withResult .done)
    else .next (s.withResult .badState)

/-- WITHDRAW (R170, TABLE 9-6): the index in OPERAND A. -/
def execWithdraw (s : State) : Res :=
  match indexOperand s.window.opA with
  | none => .next (s.withResult .badHandle)
  | some i =>
    match (s.offerAt i).state with
    | .free | .taken => .next (s.withResult .badState)
    | .staging => .next (((s.dropOffer i .free).withFill none).withResult .done)
    | .posted => .next ((s.dropOffer i .free).withResult .done)
    | .serving => .next ((s.withOffer i { s.offerAt i with withdrawPending := true }).withResult .done)

/-- CLEAR_OFFER (R172): the index in OPERAND A. -/
def execClearOffer (s : State) : Res :=
  match indexOperand s.window.opA with
  | none => .next (s.withResult .badHandle)
  | some i =>
    if (s.offerAt i).state = .taken then .next ((s.withOffer i .free).withResult .done)
    else .next (s.withResult .badState)

end Sys2Proof.Machine
end

