-- ==== Sys2Proof/Machine/SendCommands.lean ====
section
/-! DEFINITION. The commands of the Send Queue: OPEN_SEND, POST, CANCEL, HALT, GO, RESUME, DISCARD. -/

namespace Sys2Proof.Machine

/-- The tests of OPEN SEND in order (TABLE 4-3): the result of the first that fails, or the handle to open. -/
def State.openSendTests (s : State) : Except ResultCode Handle :=
  if s.noStaging = false then .error .badState
  else if 128 < s.window.opA.toNat then .error .badLength
  else match s.lowestFreeEntry with
    | none => .error .noSlot
    | some h =>
      if s.pool.grantsHost s.window.settings.reserve s.window.opA.toNat then .ok h else .error .noCells

/-- R58: the entry of handle h is opened as the staging buffer of a length. -/
def State.openSend (s : State) (h : Handle) (length : Nat) : State :=
  ((((s.withPool (s.pool.allocate length (.send h))).withEntry h
        { s.entry h with state := .staging, length := length, cells := s.pool.lowest length }).withFill
      (some { buffer := .send h, position := 0 })).withOperandC (byte h.val)).withResult .done

/-- OPEN_SEND (R57, R58, R192): the length in OPERAND A. -/
def execOpenSend (s : State) : Res :=
  match s.openSendTests with
  | .error r => .next (s.withResult r)
  | .ok h => .next (s.openSend h s.window.opA.toNat)

/-- R60, test 3: the destination is 15 exactly when the kind is BROADCAST. -/
def destinationFits (k : Kind) (d : Nibble) : Bool :=
  match k with
  | .broadcast => d == 15
  | .data | .probe | .collect => d != 15

/-- R60, test 5: length 0 for a PROBE, 1 or more for a COLLECT. -/
def lengthFits (k : Kind) (length : Nat) : Bool :=
  match k with
  | .probe => length == 0
  | .collect => length != 0
  | .data | .broadcast => true

/-- The destination operand of POST: OPERAND B, bits 7 to 4. -/
def State.postDest (s : State) : Nibble := hi s.window.opB

/-- The retry limit operand of POST: OPERAND C, bits 3 to 0. -/
def State.postRetry (s : State) : Nat := (lo s.window.opC).toNat

/-- The tests of POST in order (TABLE 4-4): the result of the first that fails, or the handle and the kind. -/
def State.postTests (s : State) : Except ResultCode (Handle × Kind) :=
  match handleOperand s.window.opA with
  | none => .error .badHandle
  | some h =>
    if (s.entry h).state ≠ .staging then .error .badHandle
    else match Kind.ofCode (lo s.window.opB) with
      | none => .error .badKind
      | some k =>
        if destinationFits k s.postDest = false then .error .badDestination
        else if s.postDest = s.window.settings.node then .error .badDestination
        else if lengthFits k (s.entry h).length = false then .error .badKind
        else if 8 < s.postRetry then .error .badValue
        else .ok (h, k)

/-- R61: DATA and BROADCAST take a tag; PROBE and COLLECT take 0 and leave the Destination Table. -/
def Kind.tagged : Kind → Bool
  | .data | .broadcast => true
  | .probe | .collect => false

/-- R61: the entry as POST leaves it. -/
def State.postedEntry (s : State) (h : Handle) (k : Kind) : SendEntry :=
  { s.entry h with
    state := if (s.dest s.postDest).suspended then .held else .ready
    postNumber := s.queue.postCounter
    dest := s.postDest
    kind := some k
    urgent := s.window.opC.getLsbD 7
    tag := if k.tagged then (s.dest s.postDest).nextTag else 0
    retryLimit := if s.postRetry = 0 then s.window.settings.retryLimit else s.postRetry
    attempts := 0
    lastReason := .none
    cancelPending := false }

/-- R61, R106: the entry of the Destination Table as POST leaves it. -/
def State.postedDest (s : State) (k : Kind) : Destination :=
  if k.tagged then { s.dest s.postDest with nextTag := (s.dest s.postDest).nextTag + 1 } else s.dest s.postDest

/-- R61: POST with every test passed. -/
def State.postEntry (s : State) (h : Handle) (k : Kind) : State :=
  { ((s.withEntry h (s.postedEntry h k)).withDest s.postDest (s.postedDest k)).withFill none with
    queue := { ((s.withEntry h (s.postedEntry h k)).withDest s.postDest (s.postedDest k)).queue with
      order := s.queue.order ++ [h], postCounter := s.queue.postCounter + 1 } }

/-- POST (R60, R61): handle in OPERAND A; destination and kind in OPERAND B; URGENT and retry limit in OPERAND C. A
POST that leaves the entry READY makes the claim test. -/
def execPost (s : State) : Res :=
  match s.postTests with
  | .error r => .next (s.withResult r)
  | .ok (h, k) =>
    if (s.dest s.postDest).suspended then .next ((s.postEntry h k).withResult .done)
    else .next ((s.postEntry h k).withResult .done).claimTest

/-- R71, STAGING: the chain is released, the fill cursor detached, the entry FREE, and no report made. -/
def State.dropStaging (s : State) (h : Handle) : State :=
  ((s.withPool (s.pool.release (s.entry h).cells)).withEntry h .free).withFill none

/-- CANCEL (R71, TABLE 4-7): the handle in OPERAND A. -/
def execCancel (s : State) : Res :=
  match handleOperand s.window.opA with
  | none => .next (s.withResult .badHandle)
  | some h =>
    match (s.entry h).state with
    | .free | .finished => .next (s.withResult .badState)
    | .staging => .next ((s.dropStaging h).withResult .done)
    | .ready | .backoff | .held => .next ((s.finish h .cancelled).withResult .done).claimTest
    | .inFlight => .next ((s.withEntry h { s.entry h with cancelPending := true }).withResult .done)

/-- HALT (R73). -/
def execHalt (s : State) : Res :=
  .next (({ s with queue := { s.queue with halted := true } } : State).withResult .done)

/-- GO (R73): the halted flag is cleared and the claim test is made. -/
def execGo (s : State) : Res :=
  .next (({ s with queue := { s.queue with halted := false } } : State).withResult .done).claimTest

/-- R110: a HELD entry to d returns to READY with attempts used 0. -/
def resumeEntry (d : Nibble) (e : SendEntry) : SendEntry :=
  if e.dest = d ∧ e.state = .held then { e with state := .ready, attempts := 0 } else e

/-- R110: destination d is resumed. -/
def State.resumeDest (s : State) (d : Nibble) : State :=
  { (s.withDest d { s.dest d with suspended := false }) with
    queue := { (s.withDest d { s.dest d with suspended := false }).queue with
      entries := s.queue.entries.map (resumeEntry d) } }

/-- The destination that RESUME or DISCARD names, or the result of the test that fails (R110, R111). -/
def State.suspendedOperand (s : State) : Except ResultCode Nibble :=
  match destinationOperand s.window.opA with
  | none => .error .badDestination
  | some d => if (s.dest d).suspended then .ok d else .error .notSuspended

/-- RESUME (R110): the destination in OPERAND A. -/
def execResume (s : State) : Res :=
  match s.suspendedOperand with
  | .error r => .next (s.withResult r)
  | .ok d => .next ((s.resumeDest d).withResult .done).claimTest

/-- The HELD entries to d in post order (R111). -/
def State.heldTo (s : State) (d : Nibble) : List Handle :=
  s.queue.order.filter (fun h => (s.entry h).state == .held && (s.entry h).dest == d)

/-- R111: every HELD entry to d finishes DISCARDED in post order, and then d becomes OPEN. -/
def State.discardDest (s : State) (d : Nibble) : State :=
  ((s.heldTo d).foldl (fun t h => t.finish h .discarded) s).withDest d { s.dest d with suspended := false }

/-- DISCARD (R111): the destination in OPERAND A. -/
def execDiscard (s : State) : Res :=
  match s.suspendedOperand with
  | .error r => .next (s.withResult r)
  | .ok d => .next ((s.discardDest d).withResult .done).claimTest

end Sys2Proof.Machine
end

