-- ==== Sys2Proof/Machine/Timers.lean ====
section
/-! DEFINITION. The timers: what each expiry does (R5, R12, R16, R70), the four expiry commands, and the passing of
one bit period. An expiry of a timer that does not run is no event and changes nothing (log 5). -/

namespace Sys2Proof.Machine

namespace State

/-- R5: the quiet timer, which runs in SETTLING, expires: the state becomes QUIET and the claim test is made. -/
def quietExpiry (s : State) : State :=
  if s.line.state = .settling then
    (s.withLine { s.line with state := .quiet, quietTimer := none }).claimTest
  else s

/-- R12: the long-quiet timer expires: hold-off is cleared, and in QUIET the claim test is made. -/
def longQuietExpiry (s : State) : State :=
  if s.line.longQuietTimer.isSome then s.clearHoldOff.claimTest else s

/-- R16: the claim limit passes in LISTENER or JOINING: the exchange is given up, LINE STUCK is set and counted, and
the state becomes STUCK, in which no timer of the Line Engine runs (R17). -/
def becomeStuck (s : State) : State :=
  { (s.giveUp.withStats { s.window.stats with lineStuck := countUp s.window.stats.lineStuck }).withLine
      { s.line with
        state := .stuck, quietTimer := none, longQuietTimer := none, claimTimer := none
        phase := .idle, frames := .cleared, record := .cleared } with
    events := { s.events with lineStuck := true } }

/-- R15, R16: the claim-limit timer, which runs in LISTENER and JOINING, expires. -/
def claimLimitExpiry (s : State) : State :=
  match s.line.state with
  | .listener _ | .joining => s.becomeStuck
  | .off | .settling | .quiet | .master _ | .stuck => s

/-- R70: an entry's backoff timer expires: the entry returns to READY in its place, and the claim test is made. -/
def backoffExpiry (s : State) (h : Handle) : State :=
  if (s.entry h).state = .backoff then
    (s.withEntry h { s.entry h with state := .ready, backoff := 0 }).claimTest
  else s

end State

/-- QUIET_TIMER_EXPIRES (R5). -/
def execQuietTimerExpires (s : State) : Res := .next s.quietExpiry

/-- LONG_QUIET_TIMER_EXPIRES (R12). -/
def execLongQuietTimerExpires (s : State) : Res := .next s.longQuietExpiry

/-- CLAIM_LIMIT_TIMER_EXPIRES (R16). -/
def execClaimLimitTimerExpires (s : State) : Res := .next s.claimLimitExpiry

/-- BACKOFF_TIMER_EXPIRES (R70). -/
def execBackoffTimerExpires (h : Handle) (s : State) : Res := .next (s.backoffExpiry h)

/-! ### One bit period -/

/-- The claim limit, in bit periods (R15). -/
def claimLimit : Nat := 1280

/-- An expiry that is due. -/
inductive Expiry where
  | quiet | longQuiet | claimLimit | backoff (handle : Handle)
  deriving DecidableEq, Repr

/-- A running timer has counted to its limit. -/
def reached (timer : Option Nat) (limit : Nat) : Bool :=
  match timer with
  | none => false
  | some n => decide (limit ≤ n)

/-- R70: a backoff timer counts down while its entry is in BACKOFF. -/
def SendEntry.countDown (e : SendEntry) : SendEntry :=
  if e.state = .backoff then { e with backoff := e.backoff - 1 } else e

namespace State

/-- What an expiry does. -/
def expire (s : State) : Expiry → State
  | .quiet => s.quietExpiry
  | .longQuiet => s.longQuietExpiry
  | .claimLimit => s.claimLimitExpiry
  | .backoff h => s.backoffExpiry h

/-- R15: the state is one in which the claim-limit timer runs. -/
def claimTimerRuns (s : State) : Bool :=
  match s.line.state with
  | .listener _ | .joining => true
  | .off | .settling | .quiet | .master _ | .stuck => false

/-- The expiries that are due: Q after the quiet timer's start (R5), 3Q after the long-quiet timer's (R12), 1280
after the claim-limit timer's (R15), and each backoff timer that has run out (R70). -/
def due (s : State) : List Expiry :=
  (if s.line.state = .settling ∧ reached s.line.quietTimer s.window.settings.quietInterval = true
    then [.quiet] else [])
  ++ (if reached s.line.longQuietTimer (3 * s.window.settings.quietInterval) then [.longQuiet] else [])
  ++ (if s.claimTimerRuns && reached s.line.claimTimer Machine.claimLimit then [.claimLimit] else [])
  ++ ((List.finRange 8).filter
        (fun h => (s.entry h).state == .backoff && (s.entry h).backoff == 0)).map .backoff

/-- One bit period passes: every running timer counts it. -/
def bitPeriod (s : State) : State :=
  { s with
    line := { s.line with
      quietTimer := s.line.quietTimer.map (· + 1)
      longQuietTimer := s.line.longQuietTimer.map (· + 1)
      claimTimer := s.line.claimTimer.map (· + 1) }
    queue := { s.queue with entries := s.queue.entries.map SendEntry.countDown } }

/-- What the step does when no command waits (log 2): if an expiry is due it is taken, and of several due together
one that is a free choice (R70, log 3); otherwise one bit period passes. -/
def idle (s : State) : State :=
  match s.due with
  | [] => s.bitPeriod
  | [e] => s.expire e
  | e :: es =>
    { s with expiryCount := s.expiryCount + 1 }.expire
      (((e :: es)[Config.expiryChoice s.expiryCount % (es.length + 1)]?).getD e)

end State
end Sys2Proof.Machine
end

