-- ==== Sys2Proof/Machine/Window.lean ====
section
/-! DEFINITION. The register accesses: FILL_DATA, DRAIN_DATA, EVENTS_WRITE, ENABLES_WRITE, REGISTER_WRITE. -/

namespace Sys2Proof.Machine

/-- The chain of a staging buffer. -/
def State.bufferCells (s : State) : Buffer → List CellNumber
  | .send h => (s.entry h).cells
  | .offer i => (s.offerAt i).cells

/-- FILL_DATA (R197): the byte goes to the cursor's place in the buffer's chain and the cursor advances; detached,
or at the length, it is a window error. -/
def execFillData (value : Byte) (s : State) : Res :=
  match s.window.fill with
  | none => .next s.windowError
  | some f =>
    if f.position < s.bufferLength f.buffer then
      .next ((s.withPool (s.pool.writeByte (s.bufferCells f.buffer) f.position value)).withFill
        (some { f with position := f.position + 1 }))
    else .next s.windowError

/-- What a read of DRAIN DATA reaches: the byte of the head's chain at the drain cursor; none where the list is empty
or the cursor stands at the head's length (R150, R151). -/
def State.drainByte (s : State) : Option Byte :=
  match s.recv.drain, s.recv.records with
  | some n, r :: _ => if n < r.length then some (s.pool.readByte r.cells n) else none
  | _, _ => none

/-- DRAIN_DATA (R150, R151): the byte is returned on the data bus (log 12) and the cursor advances; a read that
reaches no byte returns 0x00 as a window error. -/
def execDrainData (s : State) : Res :=
  match s.drainByte with
  | some b => .next { s.withRecv { s.recv with drain := s.recv.drain.map (· + 1) } with busData := b }
  | none => .next { s.windowError with busData := 0 }

/-- EVENTS_WRITE (R185): each sticky flag whose place holds a one is cleared: bit 4 LINE STUCK, bit 5 BROADCAST
MISSED, bit 6 WINDOW ERROR. -/
def execEventsWrite (value : Byte) (s : State) : Res :=
  .next { s with events := { s.events with
    lineStuck := s.events.lineStuck && !value.getLsbD 4
    broadcastMissed := s.events.broadcastMissed && !value.getLsbD 5
    windowError := s.events.windowError && !value.getLsbD 6 } }

/-- ENABLES_WRITE (R186): bits 6 to 0 are the enables; bit 7 names no flag. -/
def execEnablesWrite (value : Byte) (s : State) : Res :=
  .next { s with events := { s.events with enables := value.setWidth 7 } }

/-- REGISTER_WRITE (R190): an operand register or VIEW SELECT stores the byte; a write to a read-only register is a
window error (R184). -/
def execRegisterWrite (register : WindowRegister) (value : Byte) (s : State) : Res :=
  match register with
  | .operandA => .next { s with window := { s.window with opA := value } }
  | .operandB => .next { s with window := { s.window with opB := value } }
  | .operandC => .next { s with window := { s.window with opC := value } }
  | .viewSelect => .next { s with window := { s.window with viewSelect := value } }
  | .status | .drainData | .view _ => .next s.windowError

end Sys2Proof.Machine
end

