-- ==== Sys2Proof/Machine/Dispatch.lean ====
section
/-! DEFINITION. The dispatch: one arm per command, in the order of spec/opcode_table.json. -/

namespace Sys2Proof.Machine

/-- What a command does to everything but the queue of commands. -/
def exec (i : Instr) (s : State) : Host.Outcome State Fault Refusal :=
  match i with
  | .powerOn => Sys2Proof.Machine.execPowerOn s
  | .configure => Sys2Proof.Machine.execConfigure s
  | .lineOn lclLow => Sys2Proof.Machine.execLineOn lclLow s
  | .lineOff => Sys2Proof.Machine.execLineOff s
  | .softReset => Sys2Proof.Machine.execSoftReset s
  | .openSend => Sys2Proof.Machine.execOpenSend s
  | .post => Sys2Proof.Machine.execPost s
  | .cancel => Sys2Proof.Machine.execCancel s
  | .halt => Sys2Proof.Machine.execHalt s
  | .go => Sys2Proof.Machine.execGo s
  | .resume => Sys2Proof.Machine.execResume s
  | .discard => Sys2Proof.Machine.execDiscard s
  | .take => Sys2Proof.Machine.execTake s
  | .takeReport => Sys2Proof.Machine.execTakeReport s
  | .openOffer => Sys2Proof.Machine.execOpenOffer s
  | .postOffer => Sys2Proof.Machine.execPostOffer s
  | .withdraw => Sys2Proof.Machine.execWithdraw s
  | .clearOffer => Sys2Proof.Machine.execClearOffer s
  | .clearStatistics => Sys2Proof.Machine.execClearStatistics s
  | .unknownCommand code => Sys2Proof.Machine.execUnknownCommand code s
  | .fillData value => Sys2Proof.Machine.execFillData value s
  | .drainData => Sys2Proof.Machine.execDrainData s
  | .eventsWrite value => Sys2Proof.Machine.execEventsWrite value s
  | .enablesWrite value => Sys2Proof.Machine.execEnablesWrite value s
  | .registerWrite register value => Sys2Proof.Machine.execRegisterWrite register value s
  | .lclSeenGoingLow => Sys2Proof.Machine.execLclSeenGoingLow s
  | .lclSeenReleased => Sys2Proof.Machine.execLclSeenReleased s
  | .quietTimerExpires => Sys2Proof.Machine.execQuietTimerExpires s
  | .longQuietTimerExpires => Sys2Proof.Machine.execLongQuietTimerExpires s
  | .claimLimitTimerExpires => Sys2Proof.Machine.execClaimLimitTimerExpires s
  | .backoffTimerExpires handle => Sys2Proof.Machine.execBackoffTimerExpires handle s
  | .lostArbitration lclLow => Sys2Proof.Machine.execLostArbitration lclLow s
  | .conflict lclLow => Sys2Proof.Machine.execConflict lclLow s
  | .h0Completes lmd => Sys2Proof.Machine.execH0Completes lmd s
  | .h1Completes lmd => Sys2Proof.Machine.execH1Completes lmd s
  | .h2Completes lmd => Sys2Proof.Machine.execH2Completes lmd s
  | .h3Completes lmd => Sys2Proof.Machine.execH3Completes lmd s
  | .aCompletes lrd lclLow => Sys2Proof.Machine.execACompletes lrd lclLow s
  | .lCompletes lrd lclLow => Sys2Proof.Machine.execLCompletes lrd lclLow s
  | .payloadFrameCompletes lmd lrd => Sys2Proof.Machine.execPayloadFrameCompletes lmd lrd s
  | .c0Completes lmd lrd => Sys2Proof.Machine.execC0Completes lmd lrd s
  | .c1Completes lmd lrd lclLow => Sys2Proof.Machine.execC1Completes lmd lrd lclLow s
  | .vCompletes lmd lrd lclLow => Sys2Proof.Machine.execVCompletes lmd lrd lclLow s

end Sys2Proof.Machine
end

