-- ==== Sys2Proof/Machine/Views.lean ====
section
/-! DEFINITION. What a read of each host register shows (TABLE 11-1, R190, R198 to R200). A read changes nothing, but
for DRAIN DATA, whose read is the command DRAIN_DATA; so reads are a function of the state (log 14). -/

namespace Sys2Proof.Machine

/-- A bit at the lowest place of a nibble. -/
def flagBit (b : Bool) : Nibble := if b then 1 else 0

namespace State

/-- STATUS bits 6 to 5: 0 no staging buffer, 1 a send entry, 2 an offer. -/
def stagingCode (s : State) : BitVec 2 :=
  if s.queue.entries.toList.any (fun e => e.state == .staging) then 1
  else if s.offers.slots.toList.any (fun o => o.state == .staging) then 2 else 0

/-- STATUS (R200). -/
def statusByte (s : State) : Byte :=
  BitVec.ofBool (s.line.state != .off) ++ s.stagingCode ++ BitVec.ofBool s.queue.halted
    ++ BitVec.ofBool s.line.holdOff ++ s.line.state.code

/-- The fill cursor's position as the view of its buffer shows it; 0 while the buffer is not STAGING (R196). -/
def fillPosition (s : State) (b : Buffer) : Byte :=
  match s.window.fill with
  | some f => if f.buffer = b then byte f.position else 0
  | none => 0

/-- View HEAD RECORD, page 0 (R149): all but the count read 0 while the list is empty. -/
def viewHeadRecord (s : State) : List Byte :=
  match s.recv.records with
  | [] => [0, 0, 0, 0, 0, 0]
  | r :: _ =>
    [byte s.recv.records.length, r.arrival,
     pack r.origin (r.kind.code ++ (0 : BitVec 1) ++ BitVec.ofBool r.urgent),
     r.tag, byte r.length, r.postNumber]

/-- View HEAD RECORD, page 1: the drain cursor position. -/
def viewDrainCursor (s : State) : List Byte := [byte (s.recv.drain.getD 0)]

/-- View HEAD REPORT (R180). -/
def viewHeadReport (s : State) : List Byte :=
  match s.reports.records with
  | [] => [0, 0, 0, 0, 0, 0]
  | r :: _ =>
    [pack (nibble s.reports.records.length) (nibble s.reports.waiting.length),
     (0 : BitVec 1) ++ (kindCode r.kind).extractLsb' 0 3 ++ (0 : BitVec 1) ++ BitVec.ofNat 3 r.handle.val,
     r.postNumber, pack r.dest (nibble r.attempts), pack (outcomeCode r.outcome) r.lastReason.code]

/-- R55: an entry whose fields set at POST have no meaning shows them as 0. -/
def shownEntry (e : SendEntry) : SendEntry :=
  if e.state = .free ∨ e.state = .staging then
    { SendEntry.free with state := e.state, length := e.length, cells := e.cells }
  else e

/-- View SEND ENTRY n, page 0. -/
def viewSendEntry (s : State) (h : Handle) : List Byte :=
  let e := shownEntry (s.entry h)
  [pack e.state.code (kindCode e.kind),
   pack e.dest (BitVec.ofBool e.urgent ++ BitVec.ofBool e.cancelPending ++ (0 : BitVec 2)),
   byte e.length, e.postNumber, e.tag, pack (nibble e.retryLimit) (nibble e.attempts)]

/-- View SEND ENTRY n, page 1: the backoff timer reads 0 outside BACKOFF and the outcome 0 until the entry finishes
(R55). -/
def viewSendEntryTimer (s : State) (h : Handle) : List Byte :=
  let e := shownEntry (s.entry h)
  let timer : BitVec 11 := if e.state = .backoff then BitVec.ofNat 11 e.backoff else 0
  let outcome := if e.state = .finished then e.outcome else none
  [pack e.lastReason.code (outcomeCode outcome), (timer.extractLsb' 8 3).setWidth 8, timer.extractLsb' 0 8,
   s.fillPosition (.send h)]

/-- View DESTINATION n (R105). -/
def viewDestination (s : State) (d : Nibble) : List Byte :=
  [((0 : BitVec 6) ++ BitVec.ofBool (s.dest d).fresh ++ BitVec.ofBool (s.dest d).suspended),
   (s.dest d).nextTag, (s.dest d).suspendingPost]

/-- View SOURCE n (R134). -/
def viewSource (s : State) (o : Nibble) : List Byte :=
  [(0 : BitVec 7) ++ BitVec.ofBool (s.source o).seen, (s.source o).lastTag, (s.source o).duplicates]

/-- The place of an offer in the offer order, 1 for the front, 0 for none (R157). -/
def offerPlace (s : State) (i : OfferIndex) : Nat :=
  if s.offers.order.contains i then s.offers.order.idxOf i + 1 else 0

/-- View OFFER n (R156): every field but the state reads 0 while the offer is FREE. -/
def viewOffer (s : State) (i : OfferIndex) : List Byte :=
  let o := if (s.offerAt i).state = .free then .free else s.offerAt i
  [pack o.state.code (flagBit o.withdrawPending), pack o.addressee (nibble (s.offerPlace i)), byte o.length,
   (o.takenBy.setWidth 8), s.fillPosition (.offer i)]

/-- View POOL (R53). -/
def viewPool (s : State) : List Byte := [byte s.pool.freeCount, byte s.window.settings.reserve]

/-- View STATISTICS (TABLE 11-1). -/
def viewStatistics (s : State) : List Byte :=
  [s.window.stats.claimsLost, s.window.stats.conflicts, s.window.stats.busyGiven, s.window.stats.cutShort,
   s.window.stats.broadcastsMissed, s.window.stats.lineStuck]

/-- View CONFIGURATION (TABLE 11-1). -/
def viewConfiguration (s : State) : List Byte :=
  let c := s.window.settings
  [c.node.setWidth 8, byte c.rateDivider, byte c.quietInterval, pack (nibble c.backoffBase) (nibble c.retryLimit),
   byte c.reserve, if c.intakeHold then 1 else 0]

/-- The registers of a page of a view, those not listed reading 0 (R198). A code that names no view, or page 1 of a
view of one page, shows none. -/
def viewPage (s : State) (code : BitVec 7) (page1 : Bool) : List Byte :=
  let n := code.extractLsb' 0 4
  match page1 with
  | false =>
    if code = 0x00 then s.viewHeadRecord
    else if code = 0x01 then s.viewHeadReport
    else if h : 0x10 ≤ code.toNat ∧ code.toNat < 0x18 then s.viewSendEntry ⟨code.toNat - 0x10, by omega⟩
    else if code.toNat / 16 = 2 then s.viewDestination n
    else if code.toNat / 16 = 3 ∧ n ≠ 15 then s.viewSource n
    else if h : 0x40 ≤ code.toNat ∧ code.toNat < 0x44 then s.viewOffer ⟨code.toNat - 0x40, by omega⟩
    else if code = 0x50 then s.viewPool
    else if code = 0x51 then s.viewStatistics
    else if code = 0x52 then s.viewConfiguration
    else []
  | true =>
    if code = 0x00 then s.viewDrainCursor
    else if h : 0x10 ≤ code.toNat ∧ code.toNat < 0x18 then s.viewSendEntryTimer ⟨code.toNat - 0x10, by omega⟩
    else []

/-- VIEW 0 to VIEW 5: register n of the page that VIEW SELECT names (R198). -/
def viewRegister (s : State) (n : Nat) : Byte :=
  (s.viewPage (s.window.viewSelect.extractLsb' 0 7) (s.window.viewSelect.getLsbD 7))[n]?.getD 0

/-- What a read of the register at an address returns (TABLE 11-1, R190). FILL DATA is write-only and reads 0x00. At
DRAIN DATA's address it is the byte that DRAIN_DATA would return. -/
def hostRead (s : State) (address : Nibble) : Byte :=
  if address = 0 then s.statusByte
  else if address = 1 then s.eventFlags.setWidth 8
  else if address = 2 then s.events.enables.setWidth 8
  else if address = 3 then s.window.result.code
  else if address = 4 then s.window.opA
  else if address = 5 then s.window.opB
  else if address = 6 then s.window.opC
  else if address = 7 then 0
  else if address = 8 then s.drainByte.getD 0
  else if address = 9 then s.window.viewSelect
  else s.viewRegister (address.toNat - 10)

end State
end Sys2Proof.Machine
end

