-- ==== Sys2Proof/Safety.lean ====
section
/-! DEFINITION. The invariants of the part: what the rules say holds "in every state". Each is a property of a state
alone; that every step keeps it is a statement for the provers. -/

namespace Sys2Proof.Machine

/-- The unfinished states of a send entry (section 4.1). -/
def EntryState.unfinished : EntryState → Bool
  | .ready | .backoff | .held | .inFlight => true
  | .free | .staging | .finished => false

namespace State

/-- The items of the configuration store lie in the ranges of TABLE 11-2. -/
structure SettingsKept (s : State) : Prop where
  node : s.window.settings.node.toNat ≤ 14
  rateDivider : 2 ≤ s.window.settings.rateDivider ∧ s.window.settings.rateDivider ≤ 255
  quietInterval : 8 ≤ s.window.settings.quietInterval ∧ s.window.settings.quietInterval ≤ 64
  backoffBase : 1 ≤ s.window.settings.backoffBase ∧ s.window.settings.backoffBase ≤ 15
  retryLimit : 1 ≤ s.window.settings.retryLimit ∧ s.window.settings.retryLimit ≤ 8
  reserve : s.window.settings.reserve ≤ 32

/-- The timers run exactly in the states the rules give (R5, R12, R15); hold-off is clear in MASTER (R7) and JOINING
(R19); OFF holds the values of TABLE 1-4; the sums are 0 to 254 (R36). -/
structure EngineKept (s : State) : Prop where
  quietTimer : s.line.quietTimer.isSome = true ↔ s.line.state = .settling
  claimTimer : s.line.claimTimer.isSome = s.claimTimerRuns
  longQuietTimer : s.line.longQuietTimer.isSome = true ↔
    s.line.holdOff = true ∧ (s.line.state = .settling ∨ s.line.state = .quiet)
  master : ∀ h, s.line.state = .master h → s.line.holdOff = false
  joining : s.line.state = .joining → s.line.holdOff = false
  off : s.line.state = .off → s.line = .reset
  sums : s.line.s1.toNat < 255 ∧ s.line.s2.toNat < 255

/-- The post-order list holds the unfinished entries, each once (R56); an entry is IN-FLIGHT exactly while the Line
Engine is MASTER for it (R65); the waiting list holds the FINISHED entries, each once (R75), and none while the
Report List, of at most 8 records, has room (R177); a FREE entry has every field at 0 (R55). -/
structure QueueKept (s : State) : Prop where
  orderNodup : s.queue.order.Nodup
  orderMember : ∀ h, h ∈ s.queue.order ↔ (s.entry h).state.unfinished = true
  flight : ∀ h, (s.entry h).state = .inFlight ↔ s.line.state = .master h
  waitingNodup : s.reports.waiting.Nodup
  waitingMember : ∀ h, h ∈ s.reports.waiting ↔ (s.entry h).state = .finished
  room : s.reports.records.length ≤ 8
  full : s.reports.waiting ≠ [] → s.reports.records.length = 8
  free : ∀ h, (s.entry h).state = .free → s.entry h = .free

/-- The offer order holds the offers in POSTED and SERVING, each once (R157); an offer is SERVING exactly while the
Line Engine serves it (R162); withdraw-pending is set only while SERVING (TABLE 9-1); a FREE offer has every field
at 0 (R156, R172) and a TAKEN offer no chain (R166). -/
structure OffersKept (s : State) : Prop where
  orderNodup : s.offers.order.Nodup
  orderMember : ∀ i, i ∈ s.offers.order ↔ (s.offerAt i).state = .posted ∨ (s.offerAt i).state = .serving
  serving : ∀ i, (s.offerAt i).state = .serving ↔ s.line.state = .listener (.serving i)
  withdrawPending : ∀ i, (s.offerAt i).withdrawPending = true → (s.offerAt i).state = .serving
  free : ∀ i, (s.offerAt i).state = .free → s.offerAt i = .free
  taken : ∀ i, (s.offerAt i).state = .taken → (s.offerAt i).cells = []

/-- The phases between H3 and V in which an intake is pending. -/
def intakePhase : Phase → Bool
  | .a | .p _ | .c0 | .c1 => true
  | .idle | .h0 | .h1 | .h2 | .h3 | .l | .v | .complete => false

/-- The node takes a DATA on the new path and has not given CHECK, or takes a broadcast, between H3 and the commit
point (R125). -/
def takesIn (s : State) : Prop :=
  (s.line.state = .listener .addressed ∧ s.line.record.answer = some .accept ∧ s.line.record.path = .new
    ∧ (intakePhase s.line.phase = true ∨ (s.line.phase = .v ∧ s.line.record.verdict = some .good)))
  ∨ (s.line.state = .listener .gathering ∧ intakePhase s.line.phase = true)

/-- The places of the routine share that are taken: every record but an URGENT DATA, and an intake that will become
one (R146). -/
def routineShare (s : State) : Nat :=
  (s.recv.records.filter (fun r => !(r.kind == .data && r.urgent))).length
    + (match s.recv.intake with
       | none => 0
       | some i => if s.line.state = .listener .gathering ∨ i.urgent = false then 1 else 0)

/-- Committed records plus the pending intake never exceed 12 (R145), the routine share never exceeds 10 (R146), a
collector keeps a place for its REPLY (R92), an intake is pending only while the node takes one in (R125), and the
drain cursor is attached to the head, within its length (R150). -/
structure ReceiveKept (s : State) : Prop where
  places : s.occupancy ≤ 12
  share : s.routineShare ≤ 10
  collector : ∀ h, s.line.state = .master h → s.line.kind = some .collect → s.occupancy < 10
  intake : s.recv.intake.isSome = true → s.takesIn
  drainAttached : s.recv.drain = none ↔ s.recv.records = []
  drainWithin : ∀ n r rest, s.recv.drain = some n → s.recv.records = r :: rest → n ≤ r.length

/-- At most one staging buffer exists, the fill cursor is attached exactly to it, and stands within its length (R58,
R196). -/
structure StagingKept (s : State) : Prop where
  sendBuffer : ∀ h, (s.entry h).state = .staging ↔ ∃ n, s.window.fill = some ⟨.send h, n⟩
  offerBuffer : ∀ i, (s.offerAt i).state = .staging ↔ ∃ n, s.window.fill = some ⟨.offer i, n⟩
  position : ∀ f, s.window.fill = some f → f.position ≤ s.bufferLength f.buffer

/-- An entry is HELD only while its destination is SUSPENDED, and no READY, BACKOFF or IN-FLIGHT entry has a SUSPENDED
destination (R76, R108, R109); attempts used stays below a retry limit of 1 to 8 while the entry is unfinished
(R67). -/
structure SuspensionKept (s : State) : Prop where
  held : ∀ h, (s.entry h).state = .held → (s.dest (s.entry h).dest).suspended = true
  going : ∀ h, (s.entry h).state = .ready ∨ (s.entry h).state = .backoff ∨ (s.entry h).state = .inFlight →
    (s.dest (s.entry h).dest).suspended = false
  limit : ∀ h, (s.entry h).state.unfinished = true →
    (s.entry h).retryLimit ≤ 8 ∧ (s.entry h).attempts < (s.entry h).retryLimit

/-- What POST has tested of an unfinished entry stays true of it (R60). -/
structure PostedKept (s : State) : Prop where
  length : ∀ h, (s.entry h).length ≤ 128
  tested : ∀ h, (s.entry h).state.unfinished = true →
    ∃ k, (s.entry h).kind = some k ∧ destinationFits k (s.entry h).dest = true
      ∧ (s.entry h).dest ≠ s.window.settings.node ∧ lengthFits k (s.entry h).length = true
      ∧ (k.tagged = false → (s.entry h).tag = 0)

/-- The chain of a message of a length: each cell once, as many as the length needs (R39). -/
def chainFits (cells : List CellNumber) (length : Nat) : Prop := cells.Nodup ∧ cells.length = cellsFor length

/-- Every cell whose owner is not FREE belongs to the one chain of its owner, and to no other (R40); every chain has
the cells its length needs (R39), and none once the message is finished or taken. -/
structure PoolKept (s : State) : Prop where
  send : ∀ h c, c ∈ (s.entry h).cells ↔ s.pool.owners[c] = .send h
  offer : ∀ i c, c ∈ (s.offerAt i).cells ↔ s.pool.owners[c] = .offer i
  intake : ∀ c, (∃ m, s.recv.intake = some m ∧ c ∈ m.cells) ↔ s.pool.owners[c] = .intake
  record : ∀ c, (∃ r ∈ s.recv.records, c ∈ r.cells) ↔ s.pool.owners[c] = .record
  recordsApart : s.recv.records.Pairwise (fun r q => ∀ c ∈ r.cells, c ∉ q.cells)
  sendFits : ∀ h, (s.entry h).state ≠ .finished → chainFits (s.entry h).cells (s.entry h).length
  finishedEmpty : ∀ h, (s.entry h).state = .finished → (s.entry h).cells = []
  offerFits : ∀ i, (s.offerAt i).state ≠ .taken → chainFits (s.offerAt i).cells (s.offerAt i).length
  intakeFits : ∀ m, s.recv.intake = some m → chainFits m.cells m.length
  recordFits : ∀ r ∈ s.recv.records, chainFits r.cells r.length
  replyFits : ∀ h, s.line.state = .master h → s.line.kind = some .collect →
    s.line.payloadCount ≤ (s.entry h).length

/-- The power-on values of every block but the configuration store and the contents of the cells, with every output
released (R21, R54, R77, R114, R142, R155, R175, R181, R189, R202). -/
structure PowerOnValues (t : State) : Prop where
  line : t.line =
    { state := .off, phase := .idle, frames := ⟨none, none, none, none, none, none, none⟩, record := ⟨none, .none, none⟩,
      s1 := 0, s2 := 0, quietTimer := none, longQuietTimer := none, claimTimer := none, holdOff := false }
  owners : ∀ c : CellNumber, t.pool.owners[c] = .free
  freeCount : t.pool.freeCount = 64
  entries : ∀ h, t.entry h =
    { state := .free, length := 0, cells := [], postNumber := 0, dest := 0, kind := none, urgent := false, tag := 0,
      retryLimit := 0, attempts := 0, lastReason := .none, cancelPending := false, backoff := 0, outcome := none }
  queue : t.queue.order = [] ∧ t.queue.postCounter = 0 ∧ t.queue.halted = false
  dests : ∀ d, t.dest d = { suspended := false, nextTag := 0, fresh := true, suspendingPost := 0 }
  recv : t.recv.records = [] ∧ t.recv.intake = none ∧ t.recv.arrivalCounter = 0 ∧ t.recv.drain = none
  sources : ∀ o, t.source o = { seen := false, lastTag := 0, duplicates := 0 }
  offers : ∀ i, t.offerAt i =
    { state := .free, addressee := 0, length := 0, cells := [], takenBy := 0, withdrawPending := false }
  offerOrder : t.offers.order = []
  reports : t.reports = { records := [], waiting := [] }
  events : t.events = { lineStuck := false, broadcastMissed := false, windowError := false, enables := 0 }
  window : t.window.result = .done ∧ t.window.opA = 0 ∧ t.window.opB = 0 ∧ t.window.opC = 0
    ∧ t.window.viewSelect = 0 ∧ t.window.fill = none ∧ t.window.stats = ⟨0, 0, 0, 0, 0, 0⟩
  outputs : t.eventFlags = 0 ∧ t.int = false ∧ t.fillRequest = false ∧ t.drainRequest = false
    ∧ t.pullsLcl = false ∧ t.drivesLck = false ∧ t.lmdFrame = 0xFF ∧ t.lrdFrame = 0xFF ∧ t.statusByte = 0

end State
end Sys2Proof.Machine
end

