-- ==== Sys2Proof/Certificates/Slice0/Obligations.lean ====
section
/-! DEFINITION. The statements for the provers. A command's statement gives, for a state and operands alone, the next
state that `exec` answers, field by field; what is not named in a `with` is unchanged. Operations that several
commands share (claim test, finish, end of an attempt, release) have statements of their own. -/

open Sys2Proof Sys2Proof.Machine

/-! ### The step and the queue -/

/-- The command at the front of the queue is taken, with the queue's rest left (the model's queue, log 19). -/
def Obligations.StepRunsTheFrontCommand : Prop :=
  ∀ (c : Instr) (q : List Instr) (s : State), step { s with pending := c :: q } = exec c { s with pending := q }

/-- When each timer's expiry is due: Q after the quiet timer's start, 3Q after the long-quiet timer's, 1280 after the
claim-limit timer's, and a backoff timer at 0 bit periods left (R5, R12, R15, R70). On an empty queue: one bit period
passes if no expiry is due, a sole expiry that is due is taken as its command takes it, and one of several that are
due is taken (log 2, log 3). -/
def Obligations.IdleStepPassesTimeOrTakesADueExpiry : Prop :=
  (∀ s : State,
    (Expiry.quiet ∈ s.due ↔
      s.line.state = .settling ∧ ∃ n, s.line.quietTimer = some n ∧ s.window.settings.quietInterval ≤ n)
    ∧ (Expiry.longQuiet ∈ s.due ↔
      ∃ n, s.line.longQuietTimer = some n ∧ 3 * s.window.settings.quietInterval ≤ n)
    ∧ (Expiry.claimLimit ∈ s.due ↔
      (s.line.state = .joining ∨ ∃ r, s.line.state = .listener r) ∧ ∃ n, s.line.claimTimer = some n ∧ 1280 ≤ n)
    ∧ ∀ h, Expiry.backoff h ∈ s.due ↔ (s.entry h).state = .backoff ∧ (s.entry h).backoff = 0)
  ∧ ∀ s : State, s.pending = [] →
    (s.due = [] → step s = .next
      { s with
        line := { s.line with
          quietTimer := s.line.quietTimer.map (· + 1)
          longQuietTimer := s.line.longQuietTimer.map (· + 1)
          claimTimer := s.line.claimTimer.map (· + 1) }
        queue := { s.queue with
          entries := s.queue.entries.map
            (fun e => if e.state = .backoff then { e with backoff := e.backoff - 1 } else e) } })
    ∧ (s.due = [.quiet] → step s = exec .quietTimerExpires s)
    ∧ (s.due = [.longQuiet] → step s = exec .longQuietTimerExpires s)
    ∧ (s.due = [.claimLimit] → step s = exec .claimLimitTimerExpires s)
    ∧ (∀ h, s.due = [.backoff h] → step s = exec (.backoffTimerExpires h) s)
    ∧ (2 ≤ s.due.length →
        ∃ e ∈ s.due, step s = .next (State.expire { s with expiryCount := s.expiryCount + 1 } e))

/-- No well-formed command stops the part, and none touches the model's own queue and counter; a term of
UNKNOWN_COMMAND whose code does name a command is refused (log 13). -/
def Obligations.EveryWellFormedCommandCompletes : Prop :=
  (∀ (c : Instr) (s : State), c.wellFormed = true →
    ∃ t, exec c s = .next t ∧ t.pending = s.pending ∧ t.expiryCount = s.expiryCount)
  ∧ ∀ (c : Instr) (s : State), c.wellFormed = false → exec c s = .refused .notAnUnknownCommand

/-! ### Resets, configuration, the line enabled and disabled -/

/-- Power-on brings every block to its power-on values, the configuration store to the defaults of TABLE 11-2, and so
does State.reset. SOFT RESET does the same, but keeps the configuration store, and the contents of the cells. -/
def Obligations.ResetsBringEveryBlockToItsPowerOnValues : Prop :=
  (State.reset.PowerOnValues
  ∧ ∀ s : State, ∃ t, exec .powerOn s = .next t ∧ t.PowerOnValues
    ∧ t.window.settings =
      { node := 0, rateDivider := 16, quietInterval := 16, backoffBase := 4, retryLimit := 4, reserve := 8,
        intakeHold := false })
  ∧ ∀ s : State, ∃ t, exec .softReset s = .next t ∧ t.PowerOnValues
    ∧ t.window.settings = s.window.settings ∧ t.pool.mem = s.pool.mem

/-- CONFIGURE: its four tests in order, and the item stored when all pass. -/
def Obligations.ConfigureTestsThenStores : Prop :=
  ∀ s : State,
    let item := s.window.opA.toNat
    let v := s.window.opB.toNat
    let refused (r : ResultCode) : Prop :=
      exec .configure s = .next { s with window := { s.window with result := r } }
    let stored (c : Settings) : Prop :=
      exec .configure s = .next { s with window := { s.window with result := .done, settings := c } }
    let inRange : Prop := (item = 0 ∧ v ≤ 14) ∨ (item = 1 ∧ 2 ≤ v) ∨ (item = 2 ∧ 8 ≤ v ∧ v ≤ 64)
      ∨ (item = 3 ∧ 1 ≤ v ∧ v ≤ 15) ∨ (item = 4 ∧ 1 ≤ v ∧ v ≤ 8) ∨ (item = 5 ∧ v ≤ 32) ∨ (item = 6 ∧ v ≤ 1)
    let allFree : Prop := (∀ h, (s.entry h).state = .free) ∧ ∀ i, (s.offerAt i).state = .free
    (s.line.state ≠ .off → refused .lineOn)
    ∧ (s.line.state = .off → ¬ inRange → refused .badValue)
    ∧ (s.line.state = .off → inRange → item = 0 → ¬ allFree → refused .badState)
    ∧ (s.line.state = .off → inRange →
        (item = 0 → allFree → stored { s.window.settings with node := BitVec.ofNat 4 v })
        ∧ (item = 1 → stored { s.window.settings with rateDivider := v })
        ∧ (item = 2 → stored { s.window.settings with quietInterval := v })
        ∧ (item = 3 → stored { s.window.settings with backoffBase := v })
        ∧ (item = 4 → stored { s.window.settings with retryLimit := v })
        ∧ (item = 5 → stored { s.window.settings with reserve := v })
        ∧ (item = 6 → stored { s.window.settings with intakeHold := decide (v = 1) }))

/-- LINE ON in OFF (where the Line Engine holds the values of TABLE 1-4) starts SETTLING or JOINING by LCL; elsewhere
it gives DONE and no more. LINE OFF by the state it finds: the Line Engine takes the values of TABLE 1-4; the entry
IN-FLIGHT goes back to READY or finishes CANCELLED; a pending intake is discarded; an offer in SERVING returns. -/
def Obligations.LineOnAndLineOffActByTheState : Prop :=
  (∀ s : State,
    (s.line.state = .off → s.line = .reset →
      exec (.lineOn false) s = .next
        { s with line := { s.line with state := .settling, quietTimer := some 0 }
                 window := { s.window with result := .done } }
      ∧ exec (.lineOn true) s = .next
        { s with line := { s.line with state := .joining, claimTimer := some 0 }
                 window := { s.window with result := .done } })
    ∧ ∀ lclLow, s.line.state ≠ .off →
      exec (.lineOn lclLow) s = .next { s with window := { s.window with result := .done } })
  ∧ ∀ s : State,
    let off (u : State) : Prop := exec .lineOff s = .next
      { u with
        line :=
          { state := .off, phase := .idle, frames := .cleared
            record := .cleared, s1 := 0, s2 := 0
            quietTimer := none, longQuietTimer := none, claimTimer := none, holdOff := false }
        window := { u.window with result := .done } }
    (s.line.state = .off → exec .lineOff s = .next { s with window := { s.window with result := .done } })
    ∧ (s.line.state = .joining ∨ s.line.state = .settling ∨ s.line.state = .quiet ∨ s.line.state = .stuck → off s)
    ∧ (∀ h, s.line.state = .master h →
        ((s.entry h).cancelPending = false → off { s with queue := { s.queue with
          entries := s.queue.entries.set h { s.entry h with state := .ready } } })
        ∧ ((s.entry h).cancelPending = true → off (s.finish h .cancelled)))
    ∧ (∀ r, s.line.state = .listener r → (∀ i, r ≠ .serving i) →
        (s.recv.intake = none → off s)
        ∧ ∀ m, s.recv.intake = some m →
          off { s with pool := s.pool.release m.cells, recv := { s.recv with intake := none } })
    ∧ ∀ i, s.line.state = .listener (.serving i) → s.recv.intake = none →
        ((s.offerAt i).withdrawPending = false → off { s with offers := { s.offers with
          slots := s.offers.slots.set i { s.offerAt i with state := .posted, withdrawPending := false } } })
        ∧ ((s.offerAt i).withdrawPending = true → off { s with
            pool := s.pool.release (s.offerAt i).cells
            offers := { slots := s.offers.slots.set i .free, order := s.offers.order.filter (· != i) } })

/-! ### The Send Queue's commands -/

/-- OPEN SEND: the first test that fails gives the result, and nothing else changes. OPEN SEND with every test passed
opens the FREE entry of the lowest handle, attaches the fill cursor at byte 0 and returns the handle in OPERAND C. -/
def Obligations.OpenSendTestsThenOpensTheLowestFreeEntry : Prop :=
  (∀ s : State,
    let n := s.window.opA.toNat
    let refused (r : ResultCode) : Prop :=
      exec .openSend s = .next { s with window := { s.window with result := r } }
    let staged : Prop := (∃ h, (s.entry h).state = .staging) ∨ ∃ i, (s.offerAt i).state = .staging
    let slot : Prop := ∃ h, (s.entry h).state = .free
    (staged → refused .badState)
    ∧ (¬ staged → 128 < n → refused .badLength)
    ∧ (¬ staged → n ≤ 128 → ¬ slot → refused .noSlot)
    ∧ (¬ staged → n ≤ 128 → slot → s.pool.freeCount < s.window.settings.reserve + cellsFor n → refused .noCells))
  ∧ ∀ (s : State) (h : Handle),
    (∀ g, (s.entry g).state ≠ .staging) → (∀ i, (s.offerAt i).state ≠ .staging) →
    s.window.opA.toNat ≤ 128 →
    (s.entry h).state = .free → (∀ g, g < h → (s.entry g).state ≠ .free) →
    s.window.settings.reserve + cellsFor s.window.opA.toNat ≤ s.pool.freeCount →
    exec .openSend s = .next
      { s with
        pool := s.pool.allocate s.window.opA.toNat (.send h)
        queue := { s.queue with
          entries := s.queue.entries.set h
            { s.entry h with
              state := .staging, length := s.window.opA.toNat, cells := s.pool.lowest s.window.opA.toNat } }
        window := { s.window with
          result := .done, opC := BitVec.ofNat 8 h.val, fill := some { buffer := .send h, position := 0 } } }

/-- POST: the first test that fails gives the result, and nothing else changes. -/
def Obligations.PostRefusesInTheOrderOfItsTests : Prop :=
  ∀ s : State,
    let refused (r : ResultCode) : Prop := exec .post s = .next { s with window := { s.window with result := r } }
    let d := s.window.opB.extractLsb' 4 4
    (8 ≤ s.window.opA.toNat → refused .badHandle)
    ∧ ∀ h : Handle, s.window.opA.toNat = h.val →
      ((s.entry h).state ≠ .staging → refused .badHandle)
      ∧ ((s.entry h).state = .staging →
        ((∀ k : Kind, k.code ≠ s.window.opB.extractLsb' 0 4) → refused .badKind)
        ∧ ∀ k : Kind, k.code = s.window.opB.extractLsb' 0 4 →
          (¬ (k = .broadcast ↔ d = 15) → refused .badDestination)
          ∧ ((k = .broadcast ↔ d = 15) →
            (d = s.window.settings.node → refused .badDestination)
            ∧ (d ≠ s.window.settings.node →
              let lengthFails : Prop :=
                (k = .probe ∧ (s.entry h).length ≠ 0) ∨ (k = .collect ∧ (s.entry h).length = 0)
              (lengthFails → refused .badKind)
              ∧ (¬ lengthFails → 8 < (s.window.opC.extractLsb' 0 4).toNat → refused .badValue))))

/-- POST with every test passed: the entry's fields, its place at the end of the list, the next tag, the post counter,
the fill cursor detached; READY makes the claim test, and to a SUSPENDED destination the entry is HELD. -/
def Obligations.PostPlacesTheEntryAndGivesItsTag : Prop :=
  ∀ (s : State) (h : Handle) (k : Kind),
    let d := s.window.opB.extractLsb' 4 4
    let retry := (s.window.opC.extractLsb' 0 4).toNat
    let tagged : Bool := k == .data || k == .broadcast
    let posted : State :=
      { s with
        queue := { s.queue with
          entries := s.queue.entries.set h
            { s.entry h with
              state := if (s.dest d).suspended then .held else .ready
              postNumber := s.queue.postCounter, dest := d, kind := some k
              urgent := s.window.opC.getLsbD 7
              tag := if tagged then (s.dest d).nextTag else 0
              retryLimit := if retry = 0 then s.window.settings.retryLimit else retry
              attempts := 0, lastReason := .none, cancelPending := false }
          order := s.queue.order ++ [h]
          postCounter := s.queue.postCounter + 1
          dests := if tagged
            then s.queue.dests.set d.toNat { s.dest d with nextTag := (s.dest d).nextTag + 1 } d.isLt
            else s.queue.dests }
        window := { s.window with result := .done, fill := none } }
    s.window.opA.toNat = h.val → (s.entry h).state = .staging → k.code = s.window.opB.extractLsb' 0 4 →
    (k = .broadcast ↔ d = 15) → d ≠ s.window.settings.node →
    (k = .probe → (s.entry h).length = 0) → (k = .collect → (s.entry h).length ≠ 0) → retry ≤ 8 →
    exec .post s = .next (if (s.dest d).suspended then posted else posted.claimTest)

/-- CANCEL in each state of the entry (TABLE 4-7), and with a handle above 7. -/
def Obligations.CancelActsByTheEntrysState : Prop :=
  ∀ s : State,
    let refused (r : ResultCode) : Prop := exec .cancel s = .next { s with window := { s.window with result := r } }
    (8 ≤ s.window.opA.toNat → refused .badHandle)
    ∧ ∀ h : Handle, s.window.opA.toNat = h.val →
      ((s.entry h).state = .free ∨ (s.entry h).state = .finished → refused .badState)
      ∧ ((s.entry h).state = .staging → exec .cancel s = .next
          { s with
            pool := s.pool.release (s.entry h).cells
            queue := { s.queue with entries := s.queue.entries.set h .free }
            window := { s.window with result := .done, fill := none } })
      ∧ ((s.entry h).state = .ready ∨ (s.entry h).state = .backoff ∨ (s.entry h).state = .held →
          exec .cancel s = .next
            (let u := s.finish h .cancelled
             ({ u with window := { u.window with result := .done } } : State).claimTest))
      ∧ ((s.entry h).state = .inFlight → exec .cancel s = .next
          { s with
            queue := { s.queue with entries := s.queue.entries.set h { s.entry h with cancelPending := true } }
            window := { s.window with result := .done } })

/-- HALT sets the halted flag; GO clears it and makes the claim test. CLEAR STATISTICS sets the six counters to 0. A
byte written to COMMAND names the command of TABLE 11-1 (R191), and a code that names none issues UNKNOWN COMMAND, which
places that result and does no more. -/
def Obligations.HaltGoClearStatisticsAndUnknownCommand : Prop :=
  (∀ s : State,
    exec .halt s = .next
      { s with queue := { s.queue with halted := true }, window := { s.window with result := .done } }
    ∧ exec .go s = .next
      ({ s with queue := { s.queue with halted := false }
                window := { s.window with result := .done } } : State).claimTest)
  ∧ ∀ s : State,
    exec .clearStatistics s = .next
      { s with window := { s.window with result := .done, stats := ⟨0, 0, 0, 0, 0, 0⟩ } }
    ∧ (∀ low : Bool,
        commandWritten 0x01 low = .configure ∧ commandWritten 0x02 low = .lineOn low ∧ commandWritten 0x03 low = .lineOff
        ∧ commandWritten 0x04 low = .softReset ∧ commandWritten 0x10 low = .openSend ∧ commandWritten 0x11 low = .post
        ∧ commandWritten 0x12 low = .cancel ∧ commandWritten 0x13 low = .halt ∧ commandWritten 0x14 low = .go
        ∧ commandWritten 0x15 low = .resume ∧ commandWritten 0x16 low = .discard ∧ commandWritten 0x20 low = .take
        ∧ commandWritten 0x21 low = .takeReport ∧ commandWritten 0x30 low = .openOffer
        ∧ commandWritten 0x31 low = .postOffer ∧ commandWritten 0x32 low = .withdraw
        ∧ commandWritten 0x33 low = .clearOffer ∧ commandWritten 0x40 low = .clearStatistics)
    ∧ ∀ code : Byte,
        code ∉ [(0x01 : Byte), 0x02, 0x03, 0x04, 0x10, 0x11, 0x12, 0x13, 0x14, 0x15, 0x16, 0x20, 0x21,
          0x30, 0x31, 0x32, 0x33, 0x40] →
        (∀ low, commandWritten code low = .unknownCommand code)
        ∧ exec (.unknownCommand code) s = .next { s with window := { s.window with result := .unknownCommand } }

/-- RESUME: refused above 15 and for an OPEN destination; otherwise the destination opens and its HELD entries are
READY with attempts used 0, and the claim test is made. -/
def Obligations.ResumeReopensTheDestination : Prop :=
  ∀ s : State,
    let refused (r : ResultCode) : Prop := exec .resume s = .next { s with window := { s.window with result := r } }
    (15 < s.window.opA.toNat → refused .badDestination)
    ∧ ∀ d : Nibble, s.window.opA.toNat = d.toNat →
      ((s.dest d).suspended = false → refused .notSuspended)
      ∧ ((s.dest d).suspended = true → exec .resume s = .next
          ({ s with
            queue := { s.queue with
              dests := s.queue.dests.set d.toNat { s.dest d with suspended := false } d.isLt
              entries := s.queue.entries.map
                (fun e => if e.dest = d ∧ e.state = .held then { e with state := .ready, attempts := 0 } else e) }
            window := { s.window with result := .done } } : State).claimTest)

/-- DISCARD: refused as RESUME is; otherwise the HELD entries to the destination finish DISCARDED one after another in
post order, then it opens, and the claim test is made. No HELD entry to it is left. -/
def Obligations.DiscardFinishesTheHeldEntriesInPostOrder : Prop :=
  ∀ s : State,
    let refused (r : ResultCode) : Prop := exec .discard s = .next { s with window := { s.window with result := r } }
    (15 < s.window.opA.toNat → refused .badDestination)
    ∧ ∀ d : Nibble, s.window.opA.toNat = d.toNat →
      ((s.dest d).suspended = false → refused .notSuspended)
      ∧ ((s.dest d).suspended = true →
        let held := s.queue.order.filter (fun h => (s.entry h).state == .held && (s.entry h).dest == d)
        let u := held.foldl (fun t h => t.finish h .discarded) s
        let v : State :=
          { u with
            queue := { u.queue with dests := u.queue.dests.set d.toNat { s.dest d with suspended := false } d.isLt }
            window := { u.window with result := .done } }
        exec .discard s = .next v.claimTest
        ∧ (s.QueueKept → ∀ h, (s.entry h).state = .held → (s.entry h).dest = d →
            (v.entry h).state = .free ∨ (v.entry h).state = .finished))

/-! ### The claim -/

/-- What makes an entry of the post-order list eligible (R63), and which eligible entry is selected (R65). -/
def Obligations.SelectionIsTheOldestEligibleUrgentFirst : Prop :=
  ∀ s : State,
    (∀ h, s.eligible h = true ↔
      (s.entry h).state = .ready
      ∧ (∀ g ∈ s.queue.order.takeWhile (· != h), (s.entry g).dest ≠ (s.entry h).dest)
      ∧ (s.dest (s.entry h).dest).suspended = false
      ∧ ((s.entry h).kind = some .collect →
          s.recv.records.length + (if s.recv.intake.isSome = true then 1 else 0) < 10))
    ∧ (s.selection = none ↔ ∀ h ∈ s.queue.order, s.eligible h = false)
    ∧ ∀ h, s.selection = some h →
        h ∈ s.queue.order ∧ s.eligible h = true
        ∧ ((s.entry h).urgent = true → ∀ g ∈ s.queue.order.takeWhile (· != h),
            ¬ (s.eligible g = true ∧ (s.entry g).urgent = true))
        ∧ ((s.entry h).urgent = false →
            (∀ g ∈ s.queue.order, ¬ (s.eligible g = true ∧ (s.entry g).urgent = true))
            ∧ ∀ g ∈ s.queue.order.takeWhile (· != h), s.eligible g = false)

/-- The claim test claims only in QUIET with hold-off clear, the queue not halted and an entry selected; the claim
forms the header from the entry, clears the sums and makes the node MASTER. -/
def Obligations.ClaimTestClaimsForTheSelection : Prop :=
  ∀ s : State,
    (¬ (s.line.state = .quiet ∧ s.line.holdOff = false ∧ s.queue.halted = false) → s.claimTest = s)
    ∧ (s.selection = none → s.claimTest = s)
    ∧ ∀ (h : Handle) (k : Kind), s.line.state = .quiet → s.line.holdOff = false → s.queue.halted = false →
        s.selection = some h → (s.entry h).kind = some k →
        let e := s.entry h
        s.claimTest =
          { s with
            queue := { s.queue with entries := s.queue.entries.set h { e with state := .inFlight } }
            line := { s.line with
              state := .master h, phase := .h0, s1 := 0, s2 := 0, record := .cleared
              frames :=
                { h0 := some (s.window.settings.node ++ k.code)
                  h1 := some (e.dest ++ (BitVec.ofBool e.urgent
                    ++ BitVec.ofBool (k == .data && (s.dest e.dest).fresh) ++ (0 : BitVec 2)))
                  h2 := some e.tag
                  h3 := some (BitVec.ofNat 8 e.length)
                  l := none, c0 := none, carried := none } } }

/-! ### Finishing and the end of an attempt -/

/-- A finish: the entry leaves the post-order list, its chain is released, and its report joins the Report List, or
the entry waits in FINISHED while the list holds 8 (R74, R177). A finishing outcome: REFUSED suspends the destination,
DELIVERED and DELIVERED DUPLICATE of a DATA clear its fresh flag, and the others only finish (R66, R85, R90). -/
def Obligations.FinishReportsAndSettlesTheDestination : Prop :=
  (∀ (s : State) (h : Handle) (o : SendOutcome),
    let e := s.entry h
    (s.reports.records.length < 8 → s.finish h o =
      { s with
        pool := s.pool.release e.cells
        queue := { s.queue with
          entries := s.queue.entries.set h .free, order := s.queue.order.filter (· != h) }
        reports := { s.reports with records := s.reports.records ++
          [{ handle := h, postNumber := e.postNumber, dest := e.dest, kind := e.kind, outcome := some o
             lastReason := e.lastReason, attempts := e.attempts }] } })
    ∧ (8 ≤ s.reports.records.length → s.finish h o =
      { s with
        pool := s.pool.release e.cells
        queue := { s.queue with
          entries := s.queue.entries.set h { e with state := .finished, cells := [], backoff := 0, outcome := some o }
          order := s.queue.order.filter (· != h) }
        reports := { s.reports with waiting := s.reports.waiting ++ [h] } }))
  ∧ ∀ (s : State) (h : Handle) (o : SendOutcome),
    let e := s.entry h
    let u := s.finish h o
    let withDest (x : Destination) (held : SendEntry → SendEntry) : State :=
      { u with queue := { u.queue with
        entries := u.queue.entries.map held, dests := u.queue.dests.set e.dest.toNat x e.dest.isLt } }
    (o = .refused → s.settle h o =
      withDest { s.dest e.dest with suspended := true, suspendingPost := e.postNumber }
        (fun x => if x.dest = e.dest ∧ (x.state = .ready ∨ x.state = .backoff)
          then { x with state := .held, backoff := 0 } else x))
    ∧ (o = .delivered ∨ o = .deliveredDuplicate → e.kind = some .data → s.settle h o =
        { u with queue := { u.queue with
          dests := u.queue.dests.set e.dest.toNat { s.dest e.dest with fresh := false } e.dest.isLt } })
    ∧ (o = .delivered ∨ o = .deliveredDuplicate → e.kind ≠ some .data → s.settle h o = u)
    ∧ (o ≠ .refused → o ≠ .delivered → o ≠ .deliveredDuplicate → s.settle h o = u)

/-- A consumed attempt: CANCELLED if cancel-pending is set, FAILED at the retry limit with the destination suspended,
otherwise BACKOFF (R67); a suspension HOLDS the READY and BACKOFF entries to the destination (R108). -/
def Obligations.ConsumedAttemptCancelsFailsOrBacksOff : Prop :=
  ∀ (s : State) (h : Handle) (r : Reason),
    let e := s.entry h
    let counted : State := { s with queue := { s.queue with
      entries := s.queue.entries.set h { e with attempts := e.attempts + 1, lastReason := r } } }
    (e.cancelPending = true → s.consume h r = counted.finish h .cancelled)
    ∧ (e.cancelPending = false → e.attempts + 1 = e.retryLimit →
        let u := counted.finish h .failed
        s.consume h r =
          { u with queue := { u.queue with
            entries := u.queue.entries.map (fun x =>
              if x.dest = e.dest ∧ (x.state = .ready ∨ x.state = .backoff)
              then { x with state := .held, backoff := 0 } else x)
            dests := u.queue.dests.set e.dest.toNat
              { s.dest e.dest with suspended := true, suspendingPost := e.postNumber } e.dest.isLt } })
    ∧ (e.cancelPending = false → e.attempts + 1 ≠ e.retryLimit → s.consume h r =
        { s with
          queue := { s.queue with
            entries := s.queue.entries.set h
              { e with
                attempts := e.attempts + 1, lastReason := r, state := .backoff
                backoff := (e.attempts + 1) * s.window.settings.backoffBase * 16
                  + s.window.settings.node.toNat * 8 } } })

/-- The delay loaded when an entry goes into BACKOFF, which a later CONFIGURE does not change, with attempts used 1 to
7 there. -/
def Obligations.BackoffDelayGrowsWithAttemptsAndNode : Prop :=
  (∀ (s : State) (h : Handle) (r : Reason),
    (s.entry h).cancelPending = false → (s.entry h).attempts + 1 ≠ (s.entry h).retryLimit →
      ((s.consume h r).entry h).state = .backoff
      ∧ ((s.consume h r).entry h).backoff =
        ((s.consume h r).entry h).attempts * s.window.settings.backoffBase * 16 + s.window.settings.node.toNat * 8)
  ∧ (∀ s t : State, exec .configure s = .next t →
    t.queue = s.queue ∧ (s.line.state ≠ .off → t.window.settings = s.window.settings))
  ∧ (∀ (s : State) (h : Handle) (r : Reason), s.SuspensionKept → (s.entry h).state = .inFlight →
    (s.entry h).cancelPending = false → (s.entry h).attempts + 1 ≠ (s.entry h).retryLimit →
      1 ≤ ((s.consume h r).entry h).attempts ∧ ((s.consume h r).entry h).attempts ≤ 7)
  ∧ (∀ s : State, s.SettingsKept → 1 ≤ s.window.settings.backoffBase ∧ s.window.settings.backoffBase ≤ 15
    ∧ s.window.settings.node.toNat ≤ 14)
  ∧ State.reset.window.settings.backoffBase = 4

/-- The master ends its own exchange: hold-off is set, and the state becomes SETTLING with the quiet and long-quiet
timers started, or LISTENER as BYSTANDER with the claim-limit timer if LCL still reads low (R13). -/
def Obligations.MasterReleasesTheLineWithHoldOff : Prop :=
  ∀ s : State,
    s.releaseLine false =
      { s with line := { s.line with
        state := .settling, holdOff := true, quietTimer := some 0, longQuietTimer := some 0, claimTimer := none
        phase := .idle, frames := .cleared, record := .cleared } }
    ∧ s.releaseLine true =
      { s with line := { s.line with
        state := .listener .bystander, holdOff := true, longQuietTimer := none, claimTimer := some 0
        phase := .complete, frames := .cleared, record := .cleared } }

/-! ### The Receive List and the Report List -/

/-- TAKE: EMPTY without a committed record; otherwise the head leaves, the drain cursor goes to the next head or
detaches, and the claim test is made. TAKE frees the cells of the head, of whatever kind, and the free count rises by
their number; with an empty list it frees nothing. -/
def Obligations.TakeFreesTheCellsOfTheHead : Prop :=
  (∀ s : State,
    (s.recv.records = [] → exec .take s = .next { s with window := { s.window with result := .empty } })
    ∧ ∀ head rest, s.recv.records = head :: rest → exec .take s = .next
        ({ s with
          pool := s.pool.release head.cells
          recv := { s.recv with records := rest, drain := if rest = [] then none else some 0 }
          window := { s.window with result := .done } } : State).claimTest)
  ∧ ∀ s : State,
    (s.recv.records = [] → ∃ t, exec .take s = .next t ∧ t.pool = s.pool ∧ t.window.result = .empty)
    ∧ ∀ head rest, s.recv.records = head :: rest →
        ∃ t, exec .take s = .next t ∧ t.recv.records = rest
          ∧ (∀ c : CellNumber, t.pool.owners[c] = if c ∈ head.cells then .free else s.pool.owners[c])
          ∧ (s.PoolKept → t.pool.freeCount = s.pool.freeCount + head.cells.length)

/-- TAKE REPORT: EMPTY without a report; otherwise the head leaves, the oldest waiting entry's report moves in and
that entry is FREE. Eligibility does not change. -/
def Obligations.TakeReportMovesTheOldestWaitingReportIn : Prop :=
  ∀ s : State,
    (s.reports.records = [] → exec .takeReport s = .next { s with window := { s.window with result := .empty } }
      ∧ (s.QueueKept → s.reports.waiting = []))
    ∧ ∀ head rest, s.reports.records = head :: rest →
      (s.reports.waiting = [] → exec .takeReport s = .next
        { s with reports := { records := rest, waiting := [] }, window := { s.window with result := .done } })
      ∧ (∀ h more, s.reports.waiting = h :: more →
        let e := s.entry h
        exec .takeReport s = .next
          { s with
            queue := { s.queue with entries := s.queue.entries.set h .free }
            reports :=
              { records := rest ++
                  [{ handle := h, postNumber := e.postNumber, dest := e.dest, kind := e.kind, outcome := e.outcome
                     lastReason := e.lastReason, attempts := e.attempts }]
                waiting := more }
            window := { s.window with result := .done } })
      ∧ (s.QueueKept → ∃ t, exec .takeReport s = .next t
          ∧ (s.reports.waiting ≠ [] → t.reports.records.length = 8
            ∧ t.reports.waiting.length + 1 = s.reports.waiting.length ∧ ∃ h, (t.entry h).state = .free)
          ∧ (s.reports.waiting = [] → t.reports.records.length + 1 = s.reports.records.length)
          ∧ t.pool = s.pool ∧ ∀ g ∈ s.queue.order, t.eligible g = s.eligible g)

/-! ### The Offer Table -/

/-- OPEN OFFER: the first test that fails gives the result; with all passed the FREE offer of the lowest index becomes
the staging buffer. -/
def Obligations.OpenOfferTestsThenOpensTheLowestFreeOffer : Prop :=
  ∀ s : State,
    let n := s.window.opA.toNat
    let refused (r : ResultCode) : Prop :=
      exec .openOffer s = .next { s with window := { s.window with result := r } }
    let staged : Prop := (∃ h, (s.entry h).state = .staging) ∨ ∃ i, (s.offerAt i).state = .staging
    let badAddressee : Prop := 15 < s.window.opB.toNat ∨ s.window.opB.toNat = s.window.settings.node.toNat
    let slot : Prop := ∃ i, (s.offerAt i).state = .free
    let cells : Prop := s.window.settings.reserve + cellsFor n ≤ s.pool.freeCount
    (staged → refused .badState)
    ∧ (¬ staged → 128 < n → refused .badLength)
    ∧ (¬ staged → n ≤ 128 → badAddressee → refused .badDestination)
    ∧ (¬ staged → n ≤ 128 → ¬ badAddressee → ¬ slot → refused .noSlot)
    ∧ (¬ staged → n ≤ 128 → ¬ badAddressee → slot → ¬ cells → refused .noCells)
    ∧ (¬ staged → n ≤ 128 → ¬ badAddressee → cells →
        ∀ i, (s.offerAt i).state = .free → (∀ j, j < i → (s.offerAt j).state ≠ .free) →
        exec .openOffer s = .next
          { s with
            pool := s.pool.allocate n (.offer i)
            offers := { s.offers with
              slots := s.offers.slots.set i
                { state := .staging, addressee := s.window.opB.extractLsb' 0 4, length := n
                  cells := s.pool.lowest n, takenBy := 0, withdrawPending := false } }
            window := { s.window with
              result := .done, opC := BitVec.ofNat 8 i.val
              fill := some { buffer := .offer i, position := 0 } } })

/-- POST OFFER posts a STAGING offer at the end of the order; CLEAR OFFER makes a TAKEN offer FREE; each is refused
for an index above 3 and in every other state. WITHDRAW in each state of the offer (TABLE 9-6), and with an index
above 3. A STAGING offer stands outside the offer order. -/
def Obligations.OfferCommandsActByTheOffersState : Prop :=
  (∀ s : State,
    let refused (c : Instr) (r : ResultCode) : Prop :=
      exec c s = .next { s with window := { s.window with result := r } }
    (3 < s.window.opA.toNat → refused .postOffer .badHandle ∧ refused .clearOffer .badHandle)
    ∧ ∀ i : OfferIndex, s.window.opA.toNat = i.val →
      ((s.offerAt i).state ≠ .staging → refused .postOffer .badState)
      ∧ ((s.offerAt i).state = .staging → exec .postOffer s = .next
          { s with
            offers :=
              { slots := s.offers.slots.set i { s.offerAt i with state := .posted }
                order := s.offers.order ++ [i] }
            window := { s.window with result := .done, fill := none } })
      ∧ ((s.offerAt i).state ≠ .taken → refused .clearOffer .badState)
      ∧ ((s.offerAt i).state = .taken → exec .clearOffer s = .next
          { s with
            offers := { s.offers with
              slots := s.offers.slots.set i
                { state := .free, addressee := 0, length := 0, cells := [], takenBy := 0
                  withdrawPending := false } }
            window := { s.window with result := .done } }))
  ∧ ∀ s : State,
    let refused (r : ResultCode) : Prop := exec .withdraw s = .next { s with window := { s.window with result := r } }
    (3 < s.window.opA.toNat → refused .badHandle)
    ∧ ∀ i : OfferIndex, s.window.opA.toNat = i.val →
      ((s.offerAt i).state = .free ∨ (s.offerAt i).state = .taken → refused .badState)
      ∧ ((s.offerAt i).state = .staging → i ∉ s.offers.order → exec .withdraw s = .next
          { s with
            pool := s.pool.release (s.offerAt i).cells
            offers := { s.offers with slots := s.offers.slots.set i .free }
            window := { s.window with result := .done, fill := none } })
      ∧ ((s.offerAt i).state = .posted → exec .withdraw s = .next
          { s with
            pool := s.pool.release (s.offerAt i).cells
            offers := { slots := s.offers.slots.set i .free, order := s.offers.order.filter (· != i) }
            window := { s.window with result := .done } })
      ∧ ((s.offerAt i).state = .serving → exec .withdraw s = .next
          { s with
            offers := { s.offers with
              slots := s.offers.slots.set i { s.offerAt i with withdrawPending := true } }
            window := { s.window with result := .done } })

/-! ### The Host Window -/

/-- A command that its tests refuse changes RESULT and nothing else (R193). -/
def Obligations.RefusedCommandChangesOnlyTheResult : Prop :=
  ∀ (c : Instr) (s t : State),
    c ∈ [.configure, .openSend, .post, .cancel, .resume, .discard, .take, .takeReport, .openOffer, .postOffer,
      .withdraw, .clearOffer] →
    exec c s = .next t → t.window.result ≠ .done →
    t = { s with window := { s.window with result := t.window.result } }

/-- FILL DATA stores the byte at the cursor and advances it, or is a window error, at the length and detached. Every
other byte of the memory reads as before. The buffer's length and chain are those of the send entry or offer. -/
def Obligations.FillDataStoresAtTheCursorOrIsAWindowError : Prop :=
  ∀ (s : State) (v : Byte),
    let length (b : Buffer) : Nat := match b with
      | .send h => (s.entry h).length
      | .offer i => (s.offerAt i).length
    let chain (b : Buffer) : List CellNumber := match b with
      | .send h => (s.entry h).cells
      | .offer i => (s.offerAt i).cells
    (s.window.fill = none →
      exec (.fillData v) s = .next { s with events := { s.events with windowError := true } })
    ∧ (∀ f, s.window.fill = some f → f.position = length f.buffer →
      exec (.fillData v) s = .next { s with events := { s.events with windowError := true } })
    ∧ (∀ f, s.window.fill = some f → f.position < length f.buffer →
      ∃ t, exec (.fillData v) s = .next t
        ∧ t = { s with
            pool := { s.pool with mem := t.pool.mem }
            window := { s.window with fill := some { f with position := f.position + 1 } } }
        ∧ ∀ c : CellNumber, (chain f.buffer)[f.position / 32]? = some c → s.pool.mem.wf = true →
          t.pool.mem.read (32 * c.val + f.position % 32) = v
          ∧ ∀ b, b ≠ 32 * c.val + f.position % 32 → t.pool.mem.read b = s.pool.mem.read b)
    ∧ (∀ f, s.window.fill = some f → length f.buffer = 0 → s.StagingKept →
      exec (.fillData v) s = .next { s with events := { s.events with windowError := true } })
    ∧ ∀ f t, s.window.fill = some f → exec (.fillData v) s = .next t →
        ∃ g, t.window.fill = some g ∧ g.buffer = f.buffer ∧ f.position ≤ g.position

/-- DRAIN DATA within the head record returns the byte of the head's chain at the cursor and advances the cursor (the
returned byte stands in the model's `busData`, log 12). DRAIN DATA that reaches no byte returns 0x00, moves nothing
and sets WINDOW ERROR, which asserts INT if enabled. -/
def Obligations.DrainDataReturnsTheByteOrIsAWindowError : Prop :=
  (∀ (s : State) (n : Nat) (head : ReceiveRecord) (rest : List ReceiveRecord) (c : CellNumber),
    s.recv.drain = some n → s.recv.records = head :: rest → n < head.length → head.cells[n / 32]? = some c →
    exec .drainData s = .next
      { s with
        recv := { s.recv with drain := some (n + 1) }
        busData := s.pool.mem.read (32 * c.val + n % 32) })
  ∧ ∀ s : State,
    ((s.recv.records = [] ∧ s.recv.drain = none)
      ∨ ∃ n head rest, s.recv.records = head :: rest ∧ s.recv.drain = some n ∧ n = head.length) →
    let t : State := { s with events := { s.events with windowError := true }, busData := 0 }
    exec .drainData s = .next t
    ∧ t.eventFlags.getLsbD 6 = true
    ∧ (s.events.enables.getLsbD 6 = true → t.int = true)

/-- A write of EVENTS clears exactly the sticky flags whose places hold a one; a read shows every flag and clears
nothing; an event taken after the write sets its flag again, and the flag of one taken before is cleared, its counter
kept. -/
def Obligations.EventsWriteClearsTheStickyFlagsNamed : Prop :=
  ∀ (s : State) (v : Byte),
    exec (.eventsWrite v) s = .next
      { s with events := { s.events with
        lineStuck := if v.getLsbD 4 then false else s.events.lineStuck
        broadcastMissed := if v.getLsbD 5 then false else s.events.broadcastMissed
        windowError := if v.getLsbD 6 then false else s.events.windowError } }
    ∧ s.hostRead 1 = s.eventFlags.setWidth 8
    ∧ (s.eventFlags.getLsbD 4 = s.events.lineStuck ∧ s.eventFlags.getLsbD 5 = s.events.broadcastMissed
      ∧ s.eventFlags.getLsbD 6 = s.events.windowError)
    ∧ (∀ e t, exec e s = .next t → ∃ u, exec (.eventsWrite v) t = .next u ∧ u.window = t.window
      ∧ (v.getLsbD 4 = true → u.events.lineStuck = false)
      ∧ (v.getLsbD 5 = true → u.events.broadcastMissed = false)
      ∧ (v.getLsbD 6 = true → u.events.windowError = false))
    ∧ ∃ t, exec (.eventsWrite v) s = .next t
      ∧ (s.line.state = .joining → ∃ u, exec .claimLimitTimerExpires t = .next u ∧ u.events.lineStuck = true)
      ∧ (s.line.state = .listener .gathering → s.recv.intake.isSome = true →
        ∃ u, exec .lclSeenReleased t = .next u ∧ u.events.broadcastMissed = true)
      ∧ ∃ u, exec (.registerWrite .status 0) t = .next u ∧ u.events.windowError = true

/-- A write of ENABLES sets the seven enables, which a read then returns; INT is asserted exactly while a set flag is
enabled; each level flag is its block's condition. FILL REQUEST is asserted exactly while the fill cursor is attached
below its buffer's length, DRAIN REQUEST exactly while the drain cursor is attached below the head's length (R187,
R188). A write of an operand register or of VIEW SELECT stores the byte, which a read then returns; a write of a
read-only register is a window error. Each register's write at its address is the command of its row, and RESULT reads
as the code of TABLE 11-1. -/
def Obligations.RegisterWritesAndInt : Prop :=
  (∀ (s : State),
    (∀ v : Byte, exec (.enablesWrite v) s = .next
      { s with events := { s.events with enables := v.extractLsb' 0 7 } })
    ∧ (s.int = true ↔ ∃ i, i < 7 ∧ s.eventFlags.getLsbD i = true ∧ s.events.enables.getLsbD i = true)
    ∧ (s.eventFlags.getLsbD 0 = true ↔ s.recv.records ≠ [])
    ∧ (s.eventFlags.getLsbD 1 = true ↔ s.reports.records ≠ [])
    ∧ (s.eventFlags.getLsbD 2 = true ↔ ∃ i, (s.offerAt i).state = .taken)
    ∧ (s.eventFlags.getLsbD 3 = true ↔ ∃ d, (s.dest d).suspended = true)
    ∧ (s.fillRequest = true ↔
      (∃ h n, s.window.fill = some { buffer := .send h, position := n } ∧ n < (s.entry h).length)
      ∨ ∃ i n, s.window.fill = some { buffer := .offer i, position := n } ∧ n < (s.offerAt i).length)
    ∧ (s.drainRequest = true ↔
      ∃ n head rest, s.recv.drain = some n ∧ s.recv.records = head :: rest ∧ n < head.length))
  ∧ (∀ (s : State) (v : Byte),
    exec (.registerWrite .operandA v) s = .next { s with window := { s.window with opA := v } }
    ∧ exec (.registerWrite .operandB v) s = .next { s with window := { s.window with opB := v } }
    ∧ exec (.registerWrite .operandC v) s = .next { s with window := { s.window with opC := v } }
    ∧ exec (.registerWrite .viewSelect v) s = .next { s with window := { s.window with viewSelect := v } }
    ∧ (∀ r, r = .status ∨ r = .drainData ∨ (∃ n, r = .view n) →
        exec (.registerWrite r v) s = .next { s with events := { s.events with windowError := true } })
    ∧ s.hostRead 4 = s.window.opA ∧ s.hostRead 5 = s.window.opB ∧ s.hostRead 6 = s.window.opC
    ∧ s.hostRead 9 = s.window.viewSelect ∧ s.hostRead 7 = 0 ∧ s.hostRead 3 = s.window.result.code
    ∧ s.hostRead 2 = (0 : BitVec 1) ++ s.events.enables)
  ∧ (∀ (v : Byte) (low : Bool),
    hostWrite 0 v low = .registerWrite .status v ∧ hostWrite 1 v low = .eventsWrite v
    ∧ hostWrite 2 v low = .enablesWrite v ∧ hostWrite 3 v low = commandWritten v low
    ∧ hostWrite 4 v low = .registerWrite .operandA v ∧ hostWrite 5 v low = .registerWrite .operandB v
    ∧ hostWrite 6 v low = .registerWrite .operandC v ∧ hostWrite 7 v low = .fillData v
    ∧ hostWrite 8 v low = .registerWrite .drainData v ∧ hostWrite 9 v low = .registerWrite .viewSelect v
    ∧ ∀ n : Fin 6, hostWrite (BitVec.ofNat 4 (10 + n.val)) v low = .registerWrite (.view n) v)
  ∧ ([.done, .empty, .noSlot, .noCells, .badLength, .badHandle, .badState, .badDestination, .badKind, .badValue,
      .notSuspended, .lineOn, .unknownCommand] : List ResultCode).map ResultCode.code
    = [0x00, 0x01, 0x02, 0x03, 0x04, 0x05, 0x06, 0x07, 0x08, 0x09, 0x0A, 0x0B, 0x0C]

/-- STATUS shows the Line Engine's state, hold-off, halted, the staging buffer and the line enabled (R200); VIEW 0 to
VIEW 5 show the fields of the object that VIEW SELECT names, as they stand, on page 0 and on page 1; a code that names
no view, and page 1 of a view of one page, show 0x00 (R198). The codes are those of TABLE 11-1. -/
def Obligations.HostReadsShowTheStateAsItStands : Prop :=
  (∀ (h : Handle) (r : Role),
    ([.off, .joining, .settling, .quiet, .master h, .listener r, .stuck] : List LineState).map LineState.code
      = [0, 1, 2, 3, 4, 5, 6]
    ∧ ([.free, .staging, .ready, .backoff, .held, .inFlight, .finished] : List EntryState).map EntryState.code
      = [0, 1, 2, 3, 4, 5, 6]
    ∧ ([.free, .staging, .posted, .serving, .taken] : List OfferState).map OfferState.code = [0, 1, 2, 3, 4]
    ∧ ([.data, .probe, .broadcast, .collect] : List Kind).map Kind.code = [1, 2, 3, 4]
    ∧ ([none, some .delivered, some .deliveredDuplicate, some .sent, some .collected, some .empty, some .refused,
        some .failed, some .cancelled, some .discarded] : List (Option SendOutcome)).map outcomeCode
      = [0, 1, 2, 3, 4, 5, 6, 7, 8, 9]
    ∧ ([.none, .noAnswer, .busy, .unclear, .check, .conflict] : List Reason).map Reason.code = [0, 1, 2, 3, 4, 5]
    ∧ ([.data, .broadcast, .reply] : List RecordKind).map RecordKind.code = [1, 2, 3])
  ∧ ∀ s : State,
    let shows (select : Byte) (fields : List Byte) : Prop :=
      s.window.viewSelect = select → ∀ n, n < 6 → s.hostRead (BitVec.ofNat 4 (10 + n)) = fields[n]?.getD 0
    let b (n : Nat) : Byte := BitVec.ofNat 8 n
    let q (n : Nat) : Nibble := BitVec.ofNat 4 n
    let cursor (x : Buffer) (p : Byte) : Prop :=
      (∀ n, s.window.fill = some { buffer := x, position := n } → p = b n)
      ∧ ((∀ n, s.window.fill ≠ some { buffer := x, position := n }) → p = 0)
    let status := s.hostRead 0
    (status.extractLsb' 0 3 = s.line.state.code ∧ status.getLsbD 3 = s.line.holdOff
      ∧ status.getLsbD 4 = s.queue.halted ∧ (status.getLsbD 7 = true ↔ s.line.state ≠ .off)
      ∧ status.extractLsb' 5 2 = if ∃ h, (s.entry h).state = .staging then 1
          else if ∃ i, (s.offerAt i).state = .staging then 2 else 0)
    ∧ (∀ r rest, s.recv.records = r :: rest → shows 0x00
        [b s.recv.records.length, r.arrival, r.origin ++ (r.kind.code ++ (0 : BitVec 1) ++ BitVec.ofBool r.urgent),
          r.tag, b r.length, r.postNumber])
    ∧ (s.recv.records = [] → shows 0x00 [])
    ∧ shows 0x80 [b (s.recv.drain.getD 0)]
    ∧ (∀ r rest, s.reports.records = r :: rest → ∀ k, r.kind = some k → shows 0x01
        [q s.reports.records.length ++ q s.reports.waiting.length, k.code ++ q r.handle.val, r.postNumber,
          r.dest ++ q r.attempts, outcomeCode r.outcome ++ r.lastReason.code])
    ∧ (s.reports.records = [] → shows 0x01 [])
    ∧ (∀ h : Handle, let e := s.entry h
        (∀ k, e.state.unfinished = true ∨ e.state = .finished → e.kind = some k → shows (0x10 + b h.val)
          [e.state.code ++ k.code, e.dest ++ (BitVec.ofBool e.urgent ++ BitVec.ofBool e.cancelPending ++ (0 : BitVec 2)),
            b e.length, e.postNumber, e.tag, q e.retryLimit ++ q e.attempts])
        ∧ (e.state = .free ∨ e.state = .staging →
          shows (0x10 + b h.val) [e.state.code ++ (0 : Nibble), 0, b e.length, 0, 0, 0])
        ∧ ∃ position, cursor (.send h) position
          ∧ (e.state.unfinished = true ∨ e.state = .finished → shows (0x90 + b h.val)
            [e.lastReason.code ++ (if e.state = .finished then outcomeCode e.outcome else 0),
              if e.state = .backoff then b (e.backoff / 256 % 8) else 0, if e.state = .backoff then b e.backoff else 0,
              position])
          ∧ (e.state = .free ∨ e.state = .staging → shows (0x90 + b h.val) [0, 0, 0, position]))
    ∧ (∀ d : Nibble, shows (0x20 + d.setWidth 8)
        [(0 : BitVec 6) ++ BitVec.ofBool (s.dest d).fresh ++ BitVec.ofBool (s.dest d).suspended, (s.dest d).nextTag,
          (s.dest d).suspendingPost])
    ∧ (∀ o : Nibble, o ≠ 15 → shows (0x30 + o.setWidth 8)
        [(0 : BitVec 7) ++ BitVec.ofBool (s.source o).seen, (s.source o).lastTag, (s.source o).duplicates])
    ∧ (∀ i : OfferIndex, let o := s.offerAt i
        (o.state = .free → s.OffersKept → s.StagingKept → shows (0x40 + b i.val) [0, 0, 0, 0, 0])
        ∧ (o.state ≠ .free → ∃ place position, cursor (.offer i) position
          ∧ (∀ older newer, s.offers.order = older ++ i :: newer → i ∉ older → place = older.length + 1)
          ∧ (i ∉ s.offers.order → place = 0)
          ∧ shows (0x40 + b i.val)
            [o.state.code ++ ((0 : BitVec 3) ++ BitVec.ofBool o.withdrawPending), o.addressee ++ q place, b o.length,
              (0 : Nibble) ++ o.takenBy, position]))
    ∧ shows 0x50 [b s.pool.freeCount, b s.window.settings.reserve]
    ∧ shows 0x51
        [s.window.stats.claimsLost, s.window.stats.conflicts, s.window.stats.busyGiven, s.window.stats.cutShort,
          s.window.stats.broadcastsMissed, s.window.stats.lineStuck]
    ∧ shows 0x52
        [s.window.settings.node.setWidth 8, b s.window.settings.rateDivider, b s.window.settings.quietInterval,
          q s.window.settings.backoffBase ++ q s.window.settings.retryLimit, b s.window.settings.reserve,
          if s.window.settings.intakeHold then 1 else 0]
    ∧ (∀ c : Byte, (0x02 ≤ c ∧ c ≤ 0x0F) ∨ (0x18 ≤ c ∧ c ≤ 0x1F) ∨ c = 0x3F ∨ (0x44 ≤ c ∧ c ≤ 0x4F)
        ∨ (0x53 ≤ c ∧ c ≤ 0x7F) → shows c [])
    ∧ ∀ c : Byte, 0x81 ≤ c → ¬ (0x90 ≤ c ∧ c ≤ 0x97) → shows c []

/-! ### Events of the line below the frame, and timers -/

/-- LCL seen going low in SETTLING and QUIET opens an exchange as an UNDECIDED listener, hold-off as it was; in the
other states it is no event (log 5). LCL seen released ends the exchange, by state and role: hold-off cleared and
SETTLING entered, with the held frames and the record cleared (log 11); an exchange cut short, from the ACCEPT decided
on (log 17), is counted and its intake discarded; a broadcast taken and not yet complete is missed; a SERVING offer
returns. -/
def Obligations.LclGoingLowAndReleaseActByTheStateAndRole : Prop :=
  (∀ s : State,
    (s.line.state = .settling ∨ s.line.state = .quiet → exec .lclSeenGoingLow s = .next
      { s with line := { s.line with
        state := .listener .undecided, phase := .h0, frames := .cleared, record := .cleared, s1 := 0, s2 := 0
        quietTimer := none, longQuietTimer := none, claimTimer := some 0 } })
    ∧ (s.line.state ≠ .settling → s.line.state ≠ .quiet → exec .lclSeenGoingLow s = .next s))
  ∧ ∀ s : State,
    let up (c : Byte) : Byte := if c = 255 then 255 else c + 1
    let settled (u : State) : Prop := exec .lclSeenReleased s = .next
      { u with line := { u.line with
        state := .settling, quietTimer := some 0, longQuietTimer := none, claimTimer := none, holdOff := false
        phase := .idle, frames := .cleared, record := .cleared } }
    let discarded (m : Intake) : State :=
      { s with pool := s.pool.release m.cells, recv := { s.recv with intake := none } }
    let cutShort (u : State) : State :=
      { u with window := { u.window with stats := { u.window.stats with cutShort := up u.window.stats.cutShort } } }
    (s.line.state = .stuck ∨ s.line.state = .listener .undecided ∨ s.line.state = .listener .bystander → settled s)
    ∧ (s.line.state = .joining → s.line.holdOff = false → s.line.longQuietTimer = none → settled s)
    ∧ (s.line.state = .listener .addressed →
        (s.line.record.answer = some .accept → s.line.phase ≠ .complete →
          (s.recv.intake = none → settled (cutShort s))
          ∧ ∀ m, s.recv.intake = some m → settled (cutShort (discarded m)))
        ∧ (s.line.record.answer ≠ some .accept ∨ s.line.phase = .complete → settled s))
    ∧ (s.line.state = .listener .gathering →
        (s.recv.intake = none → settled s)
        ∧ ∀ m, s.recv.intake = some m → settled
          { discarded m with
            window := { s.window with stats := { s.window.stats with
              broadcastsMissed := up s.window.stats.broadcastsMissed } }
            events := { s.events with broadcastMissed := true } })
    ∧ (∀ i, s.line.state = .listener (.serving i) →
        ((s.offerAt i).withdrawPending = false → settled { s with offers := { s.offers with
          slots := s.offers.slots.set i { s.offerAt i with state := .posted, withdrawPending := false } } })
        ∧ ((s.offerAt i).withdrawPending = true → settled { s with
            pool := s.pool.release (s.offerAt i).cells
            offers := { slots := s.offers.slots.set i .free, order := s.offers.order.filter (· != i) } }))
    ∧ (s.line.state = .off ∨ s.line.state = .settling ∨ s.line.state = .quiet ∨ (∃ h, s.line.state = .master h) →
        exec .lclSeenReleased s = .next s)

/-- The quiet timer's expiry in SETTLING gives QUIET, the long-quiet timer's clears hold-off, and each makes the claim
test; a timer that does not run does not expire (log 5). The claim limit in LISTENER and JOINING: the exchange is
given up, LINE STUCK is set and counted, and the state is STUCK with hold-off as it was; elsewhere the timer does not
run (log 5). A backoff expiry returns the entry to READY in its place and makes the claim test; an entry that is not
in BACKOFF has no timer to expire (log 5). -/
def Obligations.TimerExpiriesActWhileTheirTimersRun : Prop :=
  (∀ s : State,
    (s.line.state = .settling → exec .quietTimerExpires s = .next
      ({ s with line := { s.line with state := .quiet, quietTimer := none } } : State).claimTest)
    ∧ (s.line.state ≠ .settling → exec .quietTimerExpires s = .next s)
    ∧ (∀ n, s.line.longQuietTimer = some n → exec .longQuietTimerExpires s = .next
      ({ s with line := { s.line with holdOff := false, longQuietTimer := none } } : State).claimTest)
    ∧ (s.line.longQuietTimer = none → exec .longQuietTimerExpires s = .next s))
  ∧ (∀ s : State,
    let up (c : Byte) : Byte := if c = 255 then 255 else c + 1
    let stuck (u : State) : Prop := exec .claimLimitTimerExpires s = .next
      { u with
        line := { s.line with
          state := .stuck, quietTimer := none, longQuietTimer := none, claimTimer := none
          phase := .idle, frames := .cleared, record := .cleared }
        window := { s.window with stats := { s.window.stats with lineStuck := up s.window.stats.lineStuck } }
        events := { s.events with lineStuck := true } }
    (s.line.state = .joining → stuck s)
    ∧ (∀ r, s.line.state = .listener r → (∀ i, r ≠ .serving i) →
        (s.recv.intake = none → stuck s)
        ∧ ∀ m, s.recv.intake = some m →
          stuck { s with pool := s.pool.release m.cells, recv := { s.recv with intake := none } })
    ∧ (∀ i, s.line.state = .listener (.serving i) → s.recv.intake = none →
        ((s.offerAt i).withdrawPending = false → stuck { s with offers := { s.offers with
          slots := s.offers.slots.set i { s.offerAt i with state := .posted, withdrawPending := false } } })
        ∧ ((s.offerAt i).withdrawPending = true → stuck { s with
            pool := s.pool.release (s.offerAt i).cells
            offers := { slots := s.offers.slots.set i .free, order := s.offers.order.filter (· != i) } }))
    ∧ (s.line.state = .off ∨ s.line.state = .settling ∨ s.line.state = .quiet ∨ s.line.state = .stuck
        ∨ (∃ h, s.line.state = .master h) → exec .claimLimitTimerExpires s = .next s))
  ∧ ∀ (s : State) (h : Handle),
    ((s.entry h).state = .backoff → exec (.backoffTimerExpires h) s = .next
      ({ s with queue := { s.queue with
        entries := s.queue.entries.set h { s.entry h with state := .ready, backoff := 0 } } } : State).claimTest)
    ∧ ((s.entry h).state ≠ .backoff → exec (.backoffTimerExpires h) s = .next s)

/-- A loss of arbitration in H0: the entry goes back to READY or finishes CANCELLED, CLAIMS LOST rises, and the node is
an UNDECIDED listener yet to complete H0, its sums as they are; with LCL released it is SETTLING. A conflict in a frame
the master drives after H0: the attempt is consumed with reason CONFLICT, CONFLICTS rises, and the node is a BYSTANDER
that has yet to complete that frame, or SETTLING with LCL released. A frame after H0 that completes with a difference is
a conflict, completed by a BYSTANDER (log 6). When the frame completes at that BYSTANDER, it is held as the line carried
it and nothing else changes, sums and all; the phase is then Complete (R8, R118, log 27). -/
def Obligations.DifferingReadbackEndsTheMastersAttempt : Prop :=
  (∀ (s : State) (h : Handle), s.line.state = .master h → s.line.phase = .h0 →
    let up (c : Byte) : Byte := if c = 255 then 255 else c + 1
    let back : State := if (s.entry h).cancelPending then s.finish h .cancelled
      else { s with queue := { s.queue with entries := s.queue.entries.set h { s.entry h with state := .ready } } }
    let lost (l : LineEngine) : State :=
      { back with
        line := l
        window := { s.window with stats := { s.window.stats with claimsLost := up s.window.stats.claimsLost } } }
    exec (.lostArbitration true) s = .next (lost { s.line with
      state := .listener .undecided, claimTimer := some 0, phase := .h0, frames := .cleared, record := .cleared })
    ∧ exec (.lostArbitration false) s = .next (lost { s.line with
      state := .settling, quietTimer := some 0, longQuietTimer := none, claimTimer := none, holdOff := false
      phase := .idle, frames := .cleared, record := .cleared }))
  ∧ (∀ (s : State) (h : Handle), s.line.state = .master h → s.line.phase ≠ .h0 → (s.masterFrame h).isSome = true →
    let up (c : Byte) : Byte := if c = 255 then 255 else c + 1
    let met (l : LineEngine) : State :=
      { s.consume h .conflict with
        line := l
        window := { s.window with stats := { s.window.stats with conflicts := up s.window.stats.conflicts } } }
    exec (.conflict true) s = .next (met { s.line with
      state := .listener .bystander, claimTimer := some 0, record := .cleared })
    ∧ exec (.conflict false) s = .next (met { s.line with
      state := .settling, quietTimer := some 0, longQuietTimer := none, claimTimer := none, holdOff := false
      phase := .idle, frames := .cleared, record := .cleared }))
  ∧ (∀ (s : State) (h : Handle) (f d g : Byte) (c : Instr), s.line.state = .master h → s.masterFrame h = some d → f ≠ d →
    (s.line.phase = .h1 ∧ c = .h1Completes f ∨ s.line.phase = .h2 ∧ c = .h2Completes f
      ∨ s.line.phase = .h3 ∧ c = .h3Completes f ∨ (∃ k, s.line.phase = .p k) ∧ c = .payloadFrameCompletes f g
      ∨ s.line.phase = .c0 ∧ c = .c0Completes f g ∨ s.line.phase = .c1 ∧ c = .c1Completes f g true
      ∨ s.line.phase = .v ∧ c = .vCompletes f g true →
        ∃ t, exec (.conflict true) s = .next t ∧ exec c s = exec c t)
    ∧ (s.line.phase = .c1 ∧ c = .c1Completes f g false ∨ s.line.phase = .v ∧ c = .vCompletes f g false →
        exec c s = exec (.conflict false) s))
  ∧ ∀ (s : State) (f g : Byte) (low : Bool), s.line.state = .listener .bystander →
    let holds (c : Instr) (fs : Frames) : Prop :=
      exec c s = .next { s with line := { s.line with frames := fs, phase := .complete } }
    let x := s.line.frames
    (s.line.phase = .h1 → holds (.h1Completes f) { x with h1 := some f })
    ∧ (s.line.phase = .h2 → holds (.h2Completes f) { x with h2 := some f })
    ∧ (s.line.phase = .h3 → holds (.h3Completes f) { x with h3 := some f })
    ∧ (s.line.phase = .c0 → holds (.c0Completes f g) { x with c0 := some f })
    ∧ (∀ k, s.line.phase = .p k → holds (.payloadFrameCompletes f g) { x with carried := some f })
    ∧ (s.line.phase = .c1 → holds (.c1Completes f g low) { x with carried := some f })
    ∧ (s.line.phase = .v → holds (.vCompletes f g low) { x with carried := some f })

/-! ### Frames -/

/-- What each end drives in each frame it owns, and that it drives nothing in the others; LMD and LRD are left released
by every other node, and LCL is pulled and LCK driven exactly by a MASTER. The wired-AND of two
different answer codes, or of two different verdict codes, is none of the codes and not 0xFF (R27), and so is classed
UNCLEAR. -/
def Obligations.EachEndDrivesItsFramesAndMixedCodesAreUnclear : Prop :=
  (∀ s : State,
    (∀ h, s.line.state = .master h →
      (s.line.phase = .h0 → s.masterFrame h = s.line.frames.h0)
      ∧ (s.line.phase = .h1 → s.masterFrame h = s.line.frames.h1)
      ∧ (s.line.phase = .h2 → s.masterFrame h = s.line.frames.h2)
      ∧ (s.line.phase = .h3 → s.masterFrame h = s.line.frames.h3)
      ∧ (s.line.kind ≠ some .collect →
        (∀ k, s.line.phase = .p k → s.masterFrame h = some (s.pool.readByte (s.entry h).cells (k - 1)))
        ∧ (s.line.phase = .c0 → s.masterFrame h = some s.line.s2)
        ∧ (s.line.phase = .c1 → s.masterFrame h = some s.line.s1)
        ∧ (s.line.phase = .v → s.masterFrame h = none))
      ∧ (s.line.kind = some .collect →
        ((∃ k, s.line.phase = .p k) ∨ s.line.phase = .c0 ∨ s.line.phase = .c1 → s.masterFrame h = none)
        ∧ (s.line.phase = .v → ∀ v, s.line.record.verdict = some v → s.masterFrame h = some v.code))
      ∧ (s.line.phase = .a ∨ s.line.phase = .l → s.masterFrame h = none)
      ∧ s.lmdFrame = (s.masterFrame h).getD 0xFF ∧ s.lrdFrame = 0xFF)
    ∧ (s.line.state = .listener .addressed → s.lmdFrame = 0xFF
      ∧ (s.line.phase = .a → ∀ a, s.line.record.answer = some a → s.lrdFrame = a.code)
      ∧ (s.line.phase = .v → ∀ v, s.line.record.verdict = some v → s.lrdFrame = v.code)
      ∧ (s.line.phase ≠ .a → s.line.phase ≠ .v → s.lrdFrame = 0xFF))
    ∧ (∀ i, s.line.state = .listener (.serving i) → s.lmdFrame = 0xFF
      ∧ (s.line.phase = .a → s.lrdFrame = 0xA6)
      ∧ (s.line.phase = .l → s.lrdFrame = BitVec.ofNat 8 (s.offerAt i).length)
      ∧ (∀ k, s.line.phase = .p k → s.lrdFrame = s.pool.readByte (s.offerAt i).cells (k - 1))
      ∧ (s.line.phase = .c0 → s.lrdFrame = s.line.s2) ∧ (s.line.phase = .c1 → s.lrdFrame = s.line.s1)
      ∧ (s.line.phase = .v → s.lrdFrame = 0xFF))
    ∧ (∀ r, s.line.state = .listener r → r ≠ .addressed → (∀ i, r ≠ .serving i) → s.lrdFrame = 0xFF)
    ∧ ((∀ r, s.line.state ≠ .listener r) → s.lrdFrame = 0xFF)
    ∧ ((∀ h, s.line.state ≠ .master h) → s.lmdFrame = 0xFF ∧ s.pullsLcl = false ∧ s.drivesLck = false)
    ∧ ((∃ h, s.line.state = .master h) → s.pullsLcl = true ∧ s.drivesLck = true))
  ∧ ([.accept, .busy, .malformed, .noOffer] : List Answer).map Answer.code = [0xA6, 0x59, 0x6C, 0x93]
  ∧ ([.good, .goodDuplicate, .check] : List Verdict).map Verdict.code = [0xC5, 0xCA, 0x35]
  ∧ (∀ (a b : Answer), a ≠ b → (∀ c : Answer, a.code &&& b.code ≠ c.code) ∧ a.code &&& b.code ≠ 0xFF)
  ∧ (∀ (v w : Verdict), v ≠ w → (∀ x : Verdict, v.code &&& w.code ≠ x.code) ∧ v.code &&& w.code ≠ 0xFF)
  ∧ (∀ (k : Kind) (a b : Answer), a ≠ b → classAnswer k (a.code &&& b.code) = .unclear)
  ∧ ∀ (v w : Verdict), v ≠ w → classVerdict (v.code &&& w.code) = none

/-- The kind is the code in H0's bits 3 to 0. H0 to H3 at the master, read back unchanged: added to the sums where the
kind covers them, and the phase moves on; read back different, the master has lost arbitration in H0, which it then
completes as a listener, and has met a conflict in H1 to H3 (log 6). H0, H1 and H2 at a listener: each is held and added
to the sums where the kind held covers it (a kind code outside 1 to 4 covers nothing, log 18), and at H1 the role is
taken (R117); a BYSTANDER assembles no further frame, so its phase is Complete (log 25). A BYSTANDER at Complete, and a
node that is neither MASTER nor LISTENER, assembles no frame: no frame completion changes anything there (R3, R118). -/
def Obligations.HeaderFramesMoveBothEndsOn : Prop :=
  (∀ (l : LineEngine) (f : Byte) (k : Kind), l.frames.h0 = some f → (l.kind = some k ↔ k.code = f.extractLsb' 0 4))
  ∧ (∀ s : State, (s.line.state = .listener .bystander ∧ s.line.phase = .complete)
      ∨ ((∀ h, s.line.state ≠ .master h) ∧ ∀ r, s.line.state ≠ .listener r) →
    ∀ (f g : Byte) (low : Bool), ∀ c ∈ [Instr.h0Completes f, .h1Completes f, .h2Completes f, .h3Completes f,
        .aCompletes g low, .lCompletes g low, .payloadFrameCompletes f g, .c0Completes f g, .c1Completes f g low,
        .vCompletes f g low],
      exec c s = .next s)
  ∧ (∀ (s : State) (h : Handle) (f : Byte), s.line.state = .master h →
    let covered : Bool :=
      s.line.kind == some .data || s.line.kind == some .probe || s.line.kind == some .broadcast
    let x1 : Byte := BitVec.ofNat 8 ((s.line.s1.toNat + f.toNat) % 255)
    let x2 : Byte := BitVec.ofNat 8 ((s.line.s2.toNat + x1.toNat) % 255)
    let on (p : Phase) : State :=
      { s with line := { s.line with
        s1 := if covered then x1 else s.line.s1, s2 := if covered then x2 else s.line.s2, phase := p } }
    (s.line.phase = .h0 → s.line.frames.h0 = some f → exec (.h0Completes f) s = .next (on .h1))
    ∧ (s.line.phase = .h1 → s.line.frames.h1 = some f → exec (.h1Completes f) s = .next (on .h2))
    ∧ (s.line.phase = .h2 → s.line.frames.h2 = some f → exec (.h2Completes f) s = .next (on .h3))
    ∧ (s.line.phase = .h3 → s.line.frames.h3 = some f → exec (.h3Completes f) s = .next (on .a))
    ∧ ∀ g, g ≠ f →
      (s.line.phase = .h0 → s.line.frames.h0 = some f →
        ∃ t, exec (.lostArbitration true) s = .next t ∧ exec (.h0Completes g) s = exec (.h0Completes g) t)
      ∧ (s.line.phase = .h1 → s.line.frames.h1 = some f →
        ∃ t, exec (.conflict true) s = .next t ∧ exec (.h1Completes g) s = exec (.h1Completes g) t)
      ∧ (s.line.phase = .h2 → s.line.frames.h2 = some f →
        ∃ t, exec (.conflict true) s = .next t ∧ exec (.h2Completes g) s = exec (.h2Completes g) t)
      ∧ (s.line.phase = .h3 → s.line.frames.h3 = some f →
        ∃ t, exec (.conflict true) s = .next t ∧ exec (.h3Completes g) s = exec (.h3Completes g) t))
  ∧ ∀ (s : State) (f : Byte),
    let sums (code : Nibble) (l : LineEngine) : LineEngine :=
      if code = 1 ∨ code = 2 ∨ code = 3 then
        let x1 : Byte := BitVec.ofNat 8 ((l.s1.toNat + f.toNat) % 255)
        { l with s1 := x1, s2 := BitVec.ofNat 8 ((l.s2.toNat + x1.toNat) % 255) }
      else l
    (s.line.state = .listener .undecided → s.line.phase = .h0 → exec (.h0Completes f) s = .next
      { s with line := { sums (f.extractLsb' 0 4) s.line with
        frames := { s.line.frames with h0 := some f }, phase := .h1 } })
    ∧ ∀ b0, s.line.frames.h0 = some b0 →
      (s.line.state = .listener .undecided → s.line.phase = .h1 → exec (.h1Completes f) s = .next
        { s with line := { sums (b0.extractLsb' 0 4) s.line with
          frames := { s.line.frames with h1 := some f }
          phase := if f.extractLsb' 4 4 = s.window.settings.node
              ∨ f.extractLsb' 4 4 = 15 ∧ b0.extractLsb' 0 4 = 3 then .h2 else .complete
          state := .listener
            (if f.extractLsb' 4 4 = s.window.settings.node then .addressed
             else if f.extractLsb' 4 4 = 15 ∧ b0.extractLsb' 0 4 = 3 then .gathering
             else .bystander) } })
      ∧ (s.line.state = .listener .addressed ∨ s.line.state = .listener .gathering → s.line.phase = .h2 →
        exec (.h2Completes f) s = .next
          { s with line := { sums (b0.extractLsb' 0 4) s.line with
            frames := { s.line.frames with h2 := some f }, phase := .h3 } })

/-- Admission at H3 of an addressed node, but for a well-formed COLLECT without intake hold: the tests of TABLE 7-2 in
order, the answer and path recorded, and what each takes; H3 is added to the sums where the kind covers it (a kind code
outside 1 to 4 covers nothing, log 18). -/
def Obligations.AdmissionAtH3AnswersInTheOrderOfItsTests : Prop :=
  ∀ (s : State) (b0 b1 b2 f : Byte), s.line.state = .listener .addressed → s.line.phase = .h3 →
    s.line.frames.h0 = some b0 → s.line.frames.h1 = some b1 → s.line.frames.h2 = some b2 →
    let origin := b0.extractLsb' 4 4
    let code := b0.extractLsb' 0 4
    let urgent := b1.getLsbD 3
    let first := b1.getLsbD 2
    let n := f.toNat
    let x1 : Byte := BitVec.ofNat 8 ((s.line.s1.toNat + n) % 255)
    let x2 : Byte := BitVec.ofNat 8 ((s.line.s2.toNat + x1.toNat) % 255)
    let covered : Prop := code = 1 ∨ code = 2 ∨ code = 3
    let answers (a : Answer) (p : Path) (v : State) : Prop := exec (.h3Completes f) s = .next
      { v with line := { s.line with
        frames := { s.line.frames with h3 := some f }, phase := .a
        s1 := if covered then x1 else s.line.s1, s2 := if covered then x2 else s.line.s2
        record := { answer := some a, path := p, verdict := s.line.record.verdict } } }
    let malformed : Prop := (code ≠ 1 ∧ code ≠ 2 ∧ code ≠ 3 ∧ code ≠ 4) ∨ b1.extractLsb' 0 2 ≠ 0
      ∨ origin = 15 ∨ origin = s.window.settings.node ∨ code = 3 ∨ 128 < n
      ∨ (code = 2 ∧ n ≠ 0) ∨ (code = 4 ∧ n = 0)
    let duplicate : Prop :=
      first = false ∧ (s.source origin).seen = true ∧ (s.source origin).lastTag = b2
    let place : Prop := s.occupancy < if urgent then 12 else 10
    let cells : Prop := cellsFor n ≤ s.pool.freeCount
    let busy : State := { s with window := { s.window with stats := { s.window.stats with
      busyGiven := if s.window.stats.busyGiven = 255 then 255 else s.window.stats.busyGiven + 1 } } }
    (malformed → answers .malformed .none s)
    ∧ (¬ malformed → s.window.settings.intakeHold = true →
        (code ≠ 4 → answers .busy .none s) ∧ (code = 4 → answers .noOffer .none s))
    ∧ (¬ malformed → s.window.settings.intakeHold = false →
        (code = 2 → answers .accept .probe s)
        ∧ (code = 1 →
          (duplicate → answers .accept .duplicate s)
          ∧ (¬ duplicate → place → cells → answers .accept .new
            { s with
              pool := s.pool.allocate n .intake
              recv := { s.recv with
                intake := some
                  { origin := origin, urgent := urgent, tag := b2, length := n, cells := s.pool.lowest n } } })
          ∧ (¬ duplicate → ¬ (place ∧ cells) → answers .busy .none busy)))

/-- A COLLECT that passes the first two tests of admission: the offer selected becomes SERVING and so does the role,
or the answer is NO OFFER; which offer is selected (R161, R162). -/
def Obligations.CollectIsServedFromTheOldestFittingOffer : Prop :=
  (∀ (s : State) (b0 b1 f : Byte), s.line.state = .listener .addressed → s.line.phase = .h3 →
    s.line.frames.h0 = some b0 → s.line.frames.h1 = some b1 → b0.extractLsb' 0 4 = 4 →
    b1.extractLsb' 0 2 = 0 → b0.extractLsb' 4 4 ≠ 15 → b0.extractLsb' 4 4 ≠ s.window.settings.node →
    f ≠ 0 → f.toNat ≤ 128 → s.window.settings.intakeHold = false →
    let held : LineEngine := { s.line with frames := { s.line.frames with h3 := some f }, phase := .a }
    let chosen := s.selectOffer (b0.extractLsb' 4 4) f.toNat
    (chosen = none → exec (.h3Completes f) s = .next
      { s with line := { held with
        record := { answer := some .noOffer, path := .none, verdict := s.line.record.verdict } } })
    ∧ ∀ i, chosen = some i → exec (.h3Completes f) s = .next
      { s with
        offers := { s.offers with slots := s.offers.slots.set i { s.offerAt i with state := .serving } }
        line := { held with
          state := .listener (.serving i)
          record := { answer := some .accept, path := .none, verdict := s.line.record.verdict } } })
  ∧ ∀ (s : State) (o : Nibble) (m : Nat),
    let fits (a : Nibble) (i : OfferIndex) : Prop :=
      (s.offerAt i).state = .posted ∧ (s.offerAt i).addressee = a ∧ (s.offerAt i).length ≤ m
    (s.selectOffer o m = none ↔ ∀ i ∈ s.offers.order, ¬ fits o i ∧ ¬ fits 15 i)
    ∧ ∀ i, s.selectOffer o m = some i → i ∈ s.offers.order
      ∧ ((fits o i ∧ ∀ j ∈ s.offers.order.takeWhile (· != i), ¬ fits o j)
        ∨ ((∀ j ∈ s.offers.order, ¬ fits o j) ∧ fits 15 i
          ∧ ∀ j ∈ s.offers.order.takeWhile (· != i), ¬ fits 15 j))

/-- H3 of a broadcast at a gathering node that holds no intake: a header that fails R32 makes it a BYSTANDER with
nothing counted; a broadcast it cannot take is missed; otherwise it takes an intake. -/
def Obligations.GatheringNodeTakesOrMissesTheBroadcast : Prop :=
  ∀ (s : State) (b0 b1 b2 f : Byte), s.line.state = .listener .gathering → s.line.phase = .h3 →
    s.line.frames.h0 = some b0 → s.line.frames.h1 = some b1 → s.line.frames.h2 = some b2 →
    b0.extractLsb' 0 4 = 3 → s.recv.intake = none →
    let n := f.toNat
    let x1 : Byte := BitVec.ofNat 8 ((s.line.s1.toNat + n) % 255)
    let held : LineEngine := { s.line with
      frames := { s.line.frames with h3 := some f }, phase := .a
      s1 := x1, s2 := BitVec.ofNat 8 ((s.line.s2.toNat + x1.toNat) % 255) }
    let malformed : Prop := b1.extractLsb' 0 2 ≠ 0 ∨ b0.extractLsb' 4 4 = 15
      ∨ b0.extractLsb' 4 4 = s.window.settings.node ∨ 128 < n
    let missed : Prop :=
      s.window.settings.intakeHold = true ∨ 10 ≤ s.recv.records.length ∨ s.pool.freeCount < cellsFor n
    (malformed → exec (.h3Completes f) s = .next { s with line := { held with state := .listener .bystander, phase := .complete } })
    ∧ (¬ malformed → missed → exec (.h3Completes f) s = .next
      { s with
        line := { held with state := .listener .bystander, phase := .complete }
        window := { s.window with stats := { s.window.stats with
          broadcastsMissed := if s.window.stats.broadcastsMissed = 255 then 255
            else s.window.stats.broadcastsMissed + 1 } }
        events := { s.events with broadcastMissed := true } })
    ∧ (¬ malformed → ¬ missed → exec (.h3Completes f) s = .next
      { s with
        line := held
        pool := s.pool.allocate n .intake
        recv := { s.recv with
          intake := some
            { origin := b0.extractLsb' 4 4, urgent := b1.getLsbD 3, tag := b2, length := n
              cells := s.pool.lowest n } } })

/-- A at the master, by the kind of its exchange and the class of the frame read (TABLE 5-1). -/
def Obligations.AnswerReadByTheMaster : Prop :=
  ∀ (s : State) (h : Handle) (lrd : Byte) (low : Bool), s.line.state = .master h → s.line.phase = .a →
    let on (p : Phase) : Prop := exec (.aCompletes lrd low) s = .next { s with line := { s.line with phase := p } }
    let consumed (r : Reason) : Prop := exec (.aCompletes lrd low) s = .next ((s.consume h r).releaseLine low)
    let settled (o : SendOutcome) : Prop := exec (.aCompletes lrd low) s = .next ((s.settle h o).releaseLine low)
    let message : Phase := if s.line.frames.h3.getD 0 = 0 then .c0 else .p 1
    (s.line.kind = some .broadcast → on message)
    ∧ ∀ k, s.line.kind = some k → k ≠ .broadcast →
      (lrd = 0xA6 →
        (k = .data → on message)
        ∧ (k = .probe → on .c0) ∧ (k = .collect → on .l))
      ∧ (lrd = 0x59 → consumed .busy)
      ∧ (lrd = 0xFF → consumed .noAnswer)
      ∧ (lrd = 0x6C → settled .refused)
      ∧ (lrd = 0x93 → (k = .collect → settled .empty) ∧ (k ≠ .collect → consumed .unclear))
      ∧ (lrd ≠ 0xA6 → lrd ≠ 0x59 → lrd ≠ 0xFF → lrd ≠ 0x6C → lrd ≠ 0x93 → consumed .unclear)

/-- A at the end that drove it, read back (R127, R165), and at a gathering node (R34): after ACCEPT the phase is P1, or
C0 for a PROBE and for a length of 0 in H3 (TABLE 2-5). -/
def Obligations.AnswerReadBackByTheTargetAndTheServer : Prop :=
  ∀ (s : State) (lrd : Byte) (low : Bool), s.line.phase = .a →
    let by_ (u : State) : Prop := exec (.aCompletes lrd low) s = .next u
    let message : Phase := if s.line.kind = some .probe ∨ s.line.frames.h3.getD 0 = 0 then .c0 else .p 1
    (∀ a, s.line.state = .listener .addressed → s.line.kind ≠ some .collect → s.line.record.answer = some a →
      lrd = a.code → a = .accept → by_ { s with line := { s.line with phase := message } })
    ∧ (∀ a, s.line.state = .listener .addressed → s.line.record.answer = some a →
      (lrd = a.code → a ≠ .accept → by_ { s with line := { s.line with state := .listener .bystander, phase := .complete } })
      ∧ (lrd ≠ a.code →
        (s.recv.intake = none → by_ { s with line := { s.line with state := .listener .bystander, phase := .complete } })
        ∧ ∀ m, s.recv.intake = some m → by_ { s with
            pool := s.pool.release m.cells
            recv := { s.recv with intake := none }
            line := { s.line with state := .listener .bystander, phase := .complete } }))
    ∧ (s.line.state = .listener .gathering → s.line.kind = some .broadcast →
        by_ { s with line := { s.line with phase := message } })
    ∧ (∀ i, s.line.state = .listener (.serving i) →
      (lrd = 0xA6 → by_ { s with line := { s.line with phase := .l } })
      ∧ (lrd ≠ 0xA6 →
        by_ { s.returnOffer i with line := { s.line with state := .listener .bystander, phase := .complete } }))

/-- The end of a service that did not succeed returns the offer to POSTED in its place, or to FREE with its chain
released if withdraw-pending is set (R165, R167, R168); a GOOD makes it TAKEN (R166). V at the server: GOOD makes the
offer TAKEN by the origin, anything else returns it; either way it is a BYSTANDER. -/
def Obligations.ServiceEndsWithTheOfferReturnedOrTaken : Prop :=
  (∀ (s : State) (i : OfferIndex) (o : Nibble),
    let x := s.offerAt i
    (x.withdrawPending = false → s.returnOffer i =
      { s with offers := { s.offers with
        slots := s.offers.slots.set i { x with state := .posted, withdrawPending := false } } })
    ∧ (x.withdrawPending = true → s.returnOffer i =
      { s with
        pool := s.pool.release x.cells
        offers := { slots := s.offers.slots.set i .free, order := s.offers.order.filter (· != i) } })
    ∧ s.giveOffer i o =
      { s with
        pool := s.pool.release x.cells
        offers :=
          { slots := s.offers.slots.set i
              { state := .taken, addressee := x.addressee, length := x.length, cells := [], takenBy := o
                withdrawPending := false }
            order := s.offers.order.filter (· != i) } })
  ∧ ∀ (s : State) (i : OfferIndex) (lmd lrd : Byte) (low : Bool),
    s.line.state = .listener (.serving i) → s.line.phase = .v →
    (lmd = 0xC5 → exec (.vCompletes lmd lrd low) s = .next
      { s.giveOffer i ((s.line.frames.h0.getD 0).extractLsb' 4 4) with
        line := { s.line with state := .listener .bystander, phase := .complete } })
    ∧ (lmd ≠ 0xC5 → exec (.vCompletes lmd lrd low) s = .next
      { s.returnOffer i with line := { s.line with state := .listener .bystander, phase := .complete } })

/-- L at the collector, within and over its maximum (R93), and at the server that drove it (R164, R165); an L that
differs there is added as driven (R34, log 26). -/
def Obligations.OfferLengthIsComparedWithTheMaximum : Prop :=
  ∀ (s : State) (lrd : Byte) (low : Bool), s.line.phase = .l → s.line.kind = some .collect →
    let x1 : Byte := BitVec.ofNat 8 ((s.line.s1.toNat + lrd.toNat) % 255)
    let taken : Prop := exec (.lCompletes lrd low) s = .next
      { s with line := { s.line with
        frames := { s.line.frames with l := some lrd }
        s1 := x1, s2 := BitVec.ofNat 8 ((s.line.s2.toNat + x1.toNat) % 255)
        phase := if lrd = 0 then .c0 else .p 1 } }
    (∀ h, s.line.state = .master h →
      (lrd.toNat ≤ (s.entry h).length → taken)
      ∧ ((s.entry h).length < lrd.toNat →
        exec (.lCompletes lrd low) s = .next ((s.consume h .unclear).releaseLine low)))
    ∧ ∀ i, s.line.state = .listener (.serving i) →
      (lrd = BitVec.ofNat 8 (s.offerAt i).length → taken)
      ∧ (lrd ≠ BitVec.ofNat 8 (s.offerAt i).length → exec (.lCompletes lrd low) s = .next
        (let driven : Byte := BitVec.ofNat 8 (s.offerAt i).length
         let d1 : Byte := BitVec.ofNat 8 ((s.line.s1.toNat + driven.toNat) % 255)
         { s.returnOffer i with line := { s.line with
           state := .listener .bystander, phase := .complete
           s1 := d1, s2 := BitVec.ofNat 8 ((s.line.s2.toNat + d1.toNat) % 255) } }))

/-- Payload frame Pk at each end: added to the sums, and written into byte k − 1 of the chain by the collector, by a
target on the new path and by a gathering node; the phase goes to the next payload frame below the count, which is H3 of
a DATA or BROADCAST and L of a COLLECT, and to C0 at it. A server whose Pk differs adds it as driven (R34, log 26) and
withdraws. C0 at each end: held as read, not added to the sums. -/
def Obligations.PayloadAndFirstCheckFrameAtEachEnd : Prop :=
  (∀ (s : State) (k n : Nat) (lmd lrd : Byte), s.line.phase = .p k →
    (s.line.kind = some .data ∨ s.line.kind = some .broadcast) ∧ n = (s.line.frames.h3.getD 0).toNat
      ∨ s.line.kind = some .collect ∧ n = (s.line.frames.l.getD 0).toNat →
    let on (f : Byte) (u : State) : Prop :=
      let x1 : Byte := BitVec.ofNat 8 ((s.line.s1.toNat + f.toNat) % 255)
      exec (.payloadFrameCompletes lmd lrd) s = .next
        { u with line := { s.line with
          s1 := x1, s2 := BitVec.ofNat 8 ((s.line.s2.toNat + x1.toNat) % 255)
          phase := if k < n then .p (k + 1) else .c0 } }
    (∀ h, s.line.state = .master h →
      (s.line.kind = some .collect →
        on lrd { s with pool := s.pool.writeByte (s.entry h).cells (k - 1) lrd })
      ∧ (s.line.kind ≠ some .collect → lmd = s.pool.readByte (s.entry h).cells (k - 1) → on lmd s))
    ∧ (s.line.state = .listener .addressed →
      (∀ m, s.line.record.path = .new → s.recv.intake = some m →
        on lmd { s with pool := s.pool.writeByte m.cells (k - 1) lmd })
      ∧ (s.line.record.path ≠ .new → on lmd s))
    ∧ (s.line.state = .listener .gathering → ∀ m, s.recv.intake = some m →
        on lmd { s with pool := s.pool.writeByte m.cells (k - 1) lmd })
    ∧ ∀ i, s.line.state = .listener (.serving i) →
      (lrd = s.pool.readByte (s.offerAt i).cells (k - 1) → on lrd s)
      ∧ (lrd ≠ s.pool.readByte (s.offerAt i).cells (k - 1) →
        exec (.payloadFrameCompletes lmd lrd) s = .next
          (let d1 : Byte :=
             BitVec.ofNat 8 ((s.line.s1.toNat + (s.pool.readByte (s.offerAt i).cells (k - 1)).toNat) % 255)
           { s.returnOffer i with line := { s.line with
             state := .listener .bystander, phase := .complete
             s1 := d1, s2 := BitVec.ofNat 8 ((s.line.s2.toNat + d1.toNat) % 255) } })))
  ∧ ∀ (s : State) (lmd lrd : Byte), s.line.phase = .c0 →
    let hold (f : Byte) : Prop := exec (.c0Completes lmd lrd) s = .next
      { s with line := { s.line with frames := { s.line.frames with c0 := some f }, phase := .c1 } }
    (∀ h, s.line.state = .master h →
      (s.line.kind = some .collect → hold lrd)
      ∧ (s.line.kind ≠ some .collect → lmd = s.line.s2 → hold lmd))
    ∧ (s.line.state = .listener .addressed ∨ s.line.state = .listener .gathering → hold lmd)
    ∧ ∀ i, s.line.state = .listener (.serving i) →
      (lrd = s.line.s2 → hold lrd)
      ∧ (lrd ≠ s.line.s2 → exec (.c0Completes lmd lrd) s = .next
        { s.returnOffer i with line := { s.line with state := .listener .bystander, phase := .complete } })

/-- C1 at each end: a BROADCAST master ends SENT; a DATA or PROBE master and a server go on to V; a collector and a
target decide their verdict by the check word, CHECK discarding the intake; a gathering node commits or misses the
broadcast. -/
def Obligations.SecondCheckFrameDecidesTheVerdict : Prop :=
  ∀ (s : State) (lmd lrd : Byte) (low : Bool), s.line.phase = .c1 →
    let on (u : State) : Prop := exec (.c1Completes lmd lrd low) s = .next u
    let verdict (u : State) (v : Verdict) : State :=
      { u with line := { s.line with record := { s.line.record with verdict := some v }, phase := .v } }
    (∀ h, s.line.state = .master h →
      (s.line.kind = some .broadcast → lmd = s.line.s1 → on ((s.settle h .sent).releaseLine low))
      ∧ (s.line.kind ≠ some .broadcast → s.line.kind ≠ some .collect → lmd = s.line.s1 →
        on { s with line := { s.line with phase := .v } })
      ∧ (s.line.kind = some .collect →
        (s.line.frames.c0 = some s.line.s2 → lrd = s.line.s1 → on (verdict s .good))
        ∧ (¬ (s.line.frames.c0 = some s.line.s2 ∧ lrd = s.line.s1) → on (verdict s .check))))
    ∧ (s.line.state = .listener .addressed →
      (s.line.frames.c0 = some s.line.s2 → lmd = s.line.s1 →
        on (verdict s (if s.line.record.path = .duplicate then .goodDuplicate else .good)))
      ∧ (¬ (s.line.frames.c0 = some s.line.s2 ∧ lmd = s.line.s1) →
        (s.recv.intake = none → on (verdict s .check))
        ∧ ∀ m, s.recv.intake = some m → on
          (verdict { s with pool := s.pool.release m.cells, recv := { s.recv with intake := none } } .check)))
    ∧ (s.line.state = .listener .gathering → ∀ m, s.recv.intake = some m →
      (s.line.frames.c0 = some s.line.s2 → lmd = s.line.s1 → on
        { s with
          pool := s.pool.setOwner m.cells .record
          recv := { s.recv with
            intake := none
            records := s.recv.records ++
              [{ arrival := s.recv.arrivalCounter, origin := m.origin, kind := .broadcast, urgent := false
                 tag := m.tag, length := m.length, postNumber := 0, cells := m.cells }]
            arrivalCounter := s.recv.arrivalCounter + 1
            drain := if s.recv.records = [] then some 0 else s.recv.drain }
          line := { s.line with phase := .complete } })
      ∧ (¬ (s.line.frames.c0 = some s.line.s2 ∧ lmd = s.line.s1) → on
        { s with
          pool := s.pool.release m.cells
          recv := { s.recv with intake := none }
          line := { s.line with state := .listener .bystander, phase := .complete }
          window := { s.window with stats := { s.window.stats with
            broadcastsMissed := if s.window.stats.broadcastsMissed = 255 then 255
              else s.window.stats.broadcastsMissed + 1 } }
          events := { s.events with broadcastMissed := true } }))
    ∧ ∀ i, s.line.state = .listener (.serving i) →
      (lrd = s.line.s1 → on { s with line := { s.line with phase := .v } })
      ∧ (lrd ≠ s.line.s1 → on { s.returnOffer i with line := { s.line with state := .listener .bystander, phase := .complete } })

/-- V at the master of a DATA or PROBE (TABLE 5-2, R89). V at the collector that drove it and read it back unchanged:
GOOD commits the REPLY with the first cells of the entry's chain, as many as L needs, and finishes the entry
COLLECTED, its surplus cells released; CHECK consumes the attempt. -/
def Obligations.VerdictAtTheMasterAndTheCollector : Prop :=
  (∀ (s : State) (h : Handle) (lmd lrd : Byte) (low : Bool), s.line.state = .master h → s.line.phase = .v →
    s.line.kind ≠ some .collect →
    let on (u : State) : Prop := exec (.vCompletes lmd lrd low) s = .next u
    (lrd = 0xC5 → on ((s.settle h .delivered).releaseLine low))
    ∧ (lrd = 0xCA → on ((s.settle h .deliveredDuplicate).releaseLine low))
    ∧ (lrd = 0x35 → on ((s.consume h .check).releaseLine low))
    ∧ (lrd ≠ 0xC5 → lrd ≠ 0xCA → lrd ≠ 0x35 → on ((s.consume h .unclear).releaseLine low)))
  ∧ ∀ (s : State) (h : Handle) (lrd : Byte) (low : Bool), s.line.state = .master h → s.line.phase = .v →
    s.line.kind = some .collect →
    let e := s.entry h
    let n := (s.line.frames.l.getD 0).toNat
    let reply : State :=
      { s with
        pool := s.pool.setOwner (e.cells.take (cellsFor n)) .record
        queue := { s.queue with
          entries := s.queue.entries.set h { e with cells := e.cells.drop (cellsFor n) } }
        recv := { s.recv with
          records := s.recv.records ++
            [{ arrival := s.recv.arrivalCounter, origin := e.dest, kind := .reply, urgent := false, tag := 0
               length := n, postNumber := e.postNumber, cells := e.cells.take (cellsFor n) }]
          arrivalCounter := s.recv.arrivalCounter + 1
          drain := if s.recv.records = [] then some 0 else s.recv.drain } }
    (s.line.record.verdict = some .good →
      exec (.vCompletes 0xC5 lrd low) s = .next ((reply.finish h .collected).releaseLine low))
    ∧ (s.line.record.verdict = some .check →
      exec (.vCompletes 0x35 lrd low) s = .next ((s.consume h .check).releaseLine low))

/-- V at the addressed node that drove it: GOOD unchanged on the new path commits the DATA and updates its origin's
entry; GOOD DUPLICATE unchanged counts; CHECK, and any difference, leave nothing and make it a BYSTANDER. -/
def Obligations.TargetCommitsWhenItsVerdictStands : Prop :=
  ∀ (s : State) (lmd lrd : Byte) (low : Bool), s.line.state = .listener .addressed → s.line.phase = .v →
    let on (u : State) : Prop := exec (.vCompletes lmd lrd low) s = .next u
    let origin := (s.line.frames.h0.getD 0).extractLsb' 4 4
    let bystander (u : State) : State := { u with line := { s.line with state := .listener .bystander, phase := .complete } }
    (s.line.record.verdict = some .good → lrd = 0xC5 → s.line.record.path = .new → ∀ m, s.recv.intake = some m →
      ∀ hw : origin.toNat < 15, on
        { s with
          pool := s.pool.setOwner m.cells .record
          recv :=
            { intake := none
              records := s.recv.records ++
                [{ arrival := s.recv.arrivalCounter, origin := m.origin, kind := .data, urgent := m.urgent
                   tag := m.tag, length := m.length, postNumber := 0, cells := m.cells }]
              arrivalCounter := s.recv.arrivalCounter + 1
              drain := if s.recv.records = [] then some 0 else s.recv.drain
              sources := s.recv.sources.set origin.toNat
                { s.recv.sources[origin.toNat] with seen := true, lastTag := s.line.frames.h2.getD 0 } }
          line := { s.line with phase := .complete } })
    ∧ (s.line.record.verdict = some .goodDuplicate → lrd = 0xCA → s.line.record.path = .duplicate →
      ∀ hw : origin.toNat < 15, on
        { s with
          recv := { s.recv with
            sources := s.recv.sources.set origin.toNat
              { s.recv.sources[origin.toNat] with
                duplicates := if s.recv.sources[origin.toNat].duplicates = 255 then 255
                  else s.recv.sources[origin.toNat].duplicates + 1 } }
          line := { s.line with phase := .complete } })
    ∧ (s.line.record.verdict = some .good → lrd = 0xC5 → s.line.record.path = .probe →
      on { s with line := { s.line with phase := .complete } })
    ∧ (s.line.record.verdict = some .check → on (bystander s))
    ∧ (∀ v, s.line.record.verdict = some v → v ≠ .check → lrd ≠ v.code →
      (s.recv.intake = none → on (bystander s))
      ∧ ∀ m, s.recv.intake = some m → on (bystander
        { s with pool := s.pool.release m.cells, recv := { s.recv with intake := none } }))

/-! ### The Message Memory -/

/-- The cells a length needs are those of TABLE 3-1. An allocation takes the lowest free cells, in rising order, and
zero-fills them; every other cell keeps its owner and every other byte reads as before (R39, R43). A byte of a chain
lies where R39 says: a write changes that byte and no other, and a read returns it. -/
def Obligations.AllocatedCellsAndChainBytes : Prop :=
  (∀ n : Nat, (n = 0 → cellsFor n = 0) ∧ (1 ≤ n → n ≤ 32 → cellsFor n = 1) ∧ (33 ≤ n → n ≤ 64 → cellsFor n = 2)
    ∧ (65 ≤ n → n ≤ 96 → cellsFor n = 3) ∧ (97 ≤ n → n ≤ 128 → cellsFor n = 4))
  ∧ (∀ (p : Pool) (n : Nat) (o : Owner),
    (p.lowest n).Pairwise (· < ·)
    ∧ (p.lowest n).length = min (cellsFor n) p.freeCount
    ∧ (∀ c ∈ p.lowest n, p.owners[c] = .free ∧ ∀ d : CellNumber, d < c → p.owners[d] = .free → d ∈ p.lowest n)
    ∧ (∀ c : CellNumber, (p.allocate n o).owners[c] = if c ∈ p.lowest n then o else p.owners[c])
    ∧ ∀ (c : CellNumber) (k : Nat), k < 32 →
      (p.allocate n o).mem.read (32 * c.val + k) = if c ∈ p.lowest n then 0 else p.mem.read (32 * c.val + k))
  ∧ ∀ (p : Pool) (cells : List CellNumber) (k : Nat) (v : Byte) (c : CellNumber),
    cells[k / 32]? = some c →
    p.readByte cells k = p.mem.read (32 * c.val + k % 32)
    ∧ (p.writeByte cells k v).owners = p.owners
    ∧ (p.mem.wf = true →
      (p.writeByte cells k v).mem.read (32 * c.val + k % 32) = v
      ∧ ∀ b, b ≠ 32 * c.val + k % 32 → (p.writeByte cells k v).mem.read b = p.mem.read b)

/-- The free count and the cells held by send entries, offers, the intake and the records add up to 64 (R40). -/
def Obligations.EveryCellIsFreeOrHeldOnce : Prop :=
  ∀ s : State, s.OffersKept → s.PoolKept →
    s.pool.freeCount
      + (((List.finRange 8).map (fun h => (s.entry h).cells.length)).sum
      + ((List.finRange 4).map (fun i => (s.offerAt i).cells.length)).sum)
      + (match s.recv.intake with | none => 0 | some m => m.cells.length)
      + (s.recv.records.map (fun r => r.cells.length)).sum = 64

/-! ### What a command leaves unchanged -/

/-- Which commands may change the bytes of the memory, the configuration, the operand registers, RESULT, VIEW SELECT,
the enables, the Source Table, the tags, the post counter, the arrival counter and the halted flag; every other leaves
them as they are. Only power-on and a command written to COMMAND change RESULT (R191): no event of the line, of a
timer or of a register access does. -/
def Obligations.CommandsLeaveWhatTheyDoNotName : Prop :=
  (∀ (c : Instr) (s t : State), exec c s = .next t → c ≠ .powerOn →
    (t.pool.mem ≠ s.pool.mem → c = .openSend ∨ c = .openOffer ∨ (∃ v, c = .fillData v)
      ∨ (∃ f, c = .h3Completes f) ∨ ∃ f g, c = .payloadFrameCompletes f g)
    ∧ (t.window.settings ≠ s.window.settings → c = .configure)
    ∧ (c ≠ .softReset →
      (t.window.opA ≠ s.window.opA → ∃ v, c = .registerWrite .operandA v)
      ∧ (t.window.opB ≠ s.window.opB → ∃ v, c = .registerWrite .operandB v)
      ∧ (t.window.opC ≠ s.window.opC → (∃ v, c = .registerWrite .operandC v)
        ∨ ((c = .openSend ∨ c = .openOffer) ∧ t.window.result = .done))
      ∧ (t.window.viewSelect ≠ s.window.viewSelect → ∃ v, c = .registerWrite .viewSelect v)
      ∧ (t.events.enables ≠ s.events.enables → ∃ v, c = .enablesWrite v)
      ∧ (t.recv.sources ≠ s.recv.sources → ∃ f g low, c = .vCompletes f g low)
      ∧ (t.recv.arrivalCounter ≠ s.recv.arrivalCounter →
        (∃ f g low, c = .c1Completes f g low) ∨ ∃ f g low, c = .vCompletes f g low)
      ∧ (t.queue.postCounter ≠ s.queue.postCounter → c = .post)
      ∧ ((∃ d, (t.dest d).nextTag ≠ (s.dest d).nextTag) → c = .post)
      ∧ (t.queue.halted ≠ s.queue.halted → c = .halt ∨ c = .go)))
  ∧ ∀ (c : Instr) (s t : State), exec c s = .next t → t.window.result ≠ s.window.result →
    c ∈ [.powerOn, .configure, .lineOff, .softReset, .openSend, .post, .cancel, .halt, .go, .resume, .discard, .take,
      .takeReport, .openOffer, .postOffer, .withdraw, .clearOffer, .clearStatistics]
    ∨ (∃ low, c = .lineOn low) ∨ ∃ code, c = .unknownCommand code

/-- No header that a claim forms from a tested entry is malformed for its target, nor for a gathering node (R31, R32,
R60): `g` is the part whose entry it is, with its own node number, `l` the Line Engine that holds the header. -/
def Obligations.HeaderOfAClaimIsNeverMalformed : Prop :=
  ∀ (s : State) (h : Handle) (first : Bool) (l : LineEngine), s.SettingsKept → s.PostedKept →
    (s.entry h).state.unfinished = true →
    l.frames = formHeader s.window.settings.node (s.entry h) first →
    ((s.entry h).kind ≠ some .broadcast → l.malformed (s.entry h).dest = false)
    ∧ ∀ node, node ≠ s.window.settings.node → l.broadcastMalformed node = false

/-! ### Invariants that every step keeps -/

/-- Every invariant of Safety.lean holds at reset. -/
def Obligations.InvariantsHoldAtReset : Prop :=
  State.reset.pool.mem.wf = true ∧ State.reset.SettingsKept ∧ State.reset.EngineKept ∧ State.reset.QueueKept
    ∧ State.reset.OffersKept ∧ State.reset.ReceiveKept ∧ State.reset.StagingKept ∧ State.reset.SuspensionKept
    ∧ State.reset.PostedKept ∧ State.reset.PoolKept

/-- Every step keeps the memory in its canonical form. -/
def Obligations.StepKeepsTheMemoryCanonical : Prop :=
  ∀ s t : State, s.pool.mem.wf = true → step s = .next t → t.pool.mem.wf = true

/-- Every step keeps the configuration store within the ranges of TABLE 11-2. -/
def Obligations.StepKeepsTheConfigurationInRange : Prop :=
  ∀ s t : State, s.SettingsKept → step s = .next t → t.SettingsKept

/-- Every step keeps each timer running exactly in its states, and the sums below 255. -/
def Obligations.StepKeepsTheTimersInTheirStates : Prop :=
  ∀ s t : State, s.EngineKept → step s = .next t → t.EngineKept

/-- Every step keeps an entry IN-FLIGHT exactly while the Line Engine is MASTER for it, the post-order list of the
unfinished entries, and a FINISHED entry only while the Report List holds 8. -/
def Obligations.StepKeepsTheSendQueueAndReportList : Prop :=
  ∀ s t : State, s.QueueKept → step s = .next t → t.QueueKept

/-- Every step keeps an offer SERVING exactly while the Line Engine serves it, and the offer order. -/
def Obligations.StepKeepsTheOfferTable : Prop :=
  ∀ s t : State, s.OffersKept → step s = .next t → t.OffersKept

/-- Every step keeps the places of the Receive List: 12 in all, 10 for the routine share. -/
def Obligations.StepKeepsTheReceiveListPlaces : Prop :=
  ∀ s t : State, s.ReceiveKept → step s = .next t → t.ReceiveKept

/-- Every step keeps at most one staging buffer, with the fill cursor attached to it and within it. -/
def Obligations.StepKeepsOneStagingBuffer : Prop :=
  ∀ s t : State, s.QueueKept → s.OffersKept → s.StagingKept → step s = .next t → t.StagingKept

/-- Every step keeps the entries to a SUSPENDED destination HELD and no others, and attempts used below the retry
limit. -/
def Obligations.StepKeepsSuspendedDestinationsHeld : Prop :=
  ∀ s t : State, s.SettingsKept → s.QueueKept → s.SuspensionKept → step s = .next t → t.SuspensionKept

/-- Every step keeps what POST has tested of each unfinished entry. -/
def Obligations.StepKeepsThePostedEntriesTested : Prop :=
  ∀ s t : State, s.QueueKept → s.PostedKept → step s = .next t → t.PostedKept

/-- Every step keeps every cell with one owner and every chain whole. -/
def Obligations.StepKeepsEveryCellInOneChain : Prop :=
  ∀ s t : State, s.QueueKept → s.OffersKept → s.ReceiveKept → s.PoolKept → step s = .next t → t.PoolKept
end

