-- ==== Sys2Proof/Laws/Lookup.lean ====
section
/-! SUPPORT. Lookups: a property of some or of every entry, offer or destination; the entry and the offer of the lowest
number; the operands of the commands; the codes written to COMMAND; the kind codes; the timers; the event flags, INT and
the request outputs; the line driven; the header as a listener reads it; the shape after A and after a payload frame. -/

namespace Sys2Proof.Machine

/-! ### Entries, offers, destinations -/

theorem anyEntry_iff (s : State) (q : SendEntry → Bool) :
    s.queue.entries.toList.any q = true ↔ ∃ h, q (s.entry h) = true := by
  rw [List.any_eq_true]
  constructor
  · rintro ⟨x, hx, hq⟩
    obtain ⟨i, hi, rfl⟩ := Vector.getElem_of_mem (Vector.mem_toList_iff.mp hx)
    exact ⟨⟨i, hi⟩, hq⟩
  · rintro ⟨h, hq⟩
    exact ⟨_, Vector.mem_toList_iff.mpr (Vector.getElem_mem h.isLt), hq⟩

theorem allEntries_iff (s : State) (q : SendEntry → Bool) :
    s.queue.entries.toList.all q = true ↔ ∀ h, q (s.entry h) = true := by
  rw [List.all_eq_true]
  constructor
  · intro H h
    exact H _ (Vector.mem_toList_iff.mpr (Vector.getElem_mem h.isLt))
  · intro H x hx
    obtain ⟨i, hi, rfl⟩ := Vector.getElem_of_mem (Vector.mem_toList_iff.mp hx)
    exact H ⟨i, hi⟩

theorem anyOffer_iff (s : State) (q : Offer → Bool) :
    s.offers.slots.toList.any q = true ↔ ∃ i, q (s.offerAt i) = true := by
  rw [List.any_eq_true]
  constructor
  · rintro ⟨x, hx, hq⟩
    obtain ⟨i, hi, rfl⟩ := Vector.getElem_of_mem (Vector.mem_toList_iff.mp hx)
    exact ⟨⟨i, hi⟩, hq⟩
  · rintro ⟨i, hq⟩
    exact ⟨_, Vector.mem_toList_iff.mpr (Vector.getElem_mem i.isLt), hq⟩

theorem allOffers_iff (s : State) (q : Offer → Bool) :
    s.offers.slots.toList.all q = true ↔ ∀ i, q (s.offerAt i) = true := by
  rw [List.all_eq_true]
  constructor
  · intro H i
    exact H _ (Vector.mem_toList_iff.mpr (Vector.getElem_mem i.isLt))
  · intro H x hx
    obtain ⟨i, hi, rfl⟩ := Vector.getElem_of_mem (Vector.mem_toList_iff.mp hx)
    exact H ⟨i, hi⟩

theorem anyDest_iff (s : State) (q : Destination → Bool) :
    s.queue.dests.toList.any q = true ↔ ∃ d, q (s.dest d) = true := by
  rw [List.any_eq_true]
  constructor
  · rintro ⟨x, hx, hq⟩
    obtain ⟨i, hi, rfl⟩ := Vector.getElem_of_mem (Vector.mem_toList_iff.mp hx)
    exact ⟨⟨i, hi⟩, hq⟩
  · rintro ⟨d, hq⟩
    exact ⟨_, Vector.mem_toList_iff.mpr (Vector.getElem_mem d.isLt), hq⟩

theorem noStaging_iff (s : State) :
    s.noStaging = true ↔ (∀ h, (s.entry h).state ≠ .staging) ∧ ∀ i, (s.offerAt i).state ≠ .staging := by
  simp only [State.noStaging, Bool.and_eq_true, allEntries_iff, allOffers_iff]; simp

theorem noStaging_eq_false_iff (s : State) :
    s.noStaging = false ↔ (∃ h, (s.entry h).state = .staging) ∨ ∃ i, (s.offerAt i).state = .staging := by
  rw [← Bool.not_eq_true, noStaging_iff, not_and_or]; simp

theorem find_finRange_iff {n : Nat} (p : Fin n → Bool) (i : Fin n) :
    (List.finRange n).find? p = some i ↔ p i = true ∧ ∀ j, j < i → p j = false := by
  rw [List.find?_eq_some_iff_getElem]
  constructor
  · rintro ⟨hp, k, hk, he, hb⟩
    simp only [List.getElem_finRange] at he hb
    refine ⟨hp, fun j hj => ?_⟩
    have := hb j.val (by rw [← he] at hj; exact hj)
    simpa using this
  · rintro ⟨hp, hb⟩
    refine ⟨hp, i.val, by simp, by simp, fun j hj => ?_⟩
    simp only [List.getElem_finRange, Bool.not_eq_true']
    exact hb _ hj

theorem find_finRange_none {n : Nat} (p : Fin n → Bool) :
    (List.finRange n).find? p = none ↔ ∀ j, p j = false := by simp [List.find?_eq_none]

/-- The offer order's first fit: the offers before it do not fit. -/
theorem find_takeWhile {n : Nat} (l : List (Fin n)) (p : Fin n → Bool) (i : Fin n) (h : l.find? p = some i) :
    i ∈ l ∧ p i = true ∧ ∀ j ∈ l.takeWhile (· != i), p j = false := by
  rw [List.find?_eq_some_iff_append] at h
  obtain ⟨hp, as, bs, rfl, hb⟩ := h
  have hne : ∀ a ∈ as, a ≠ i := by rintro a ha rfl; have := hb _ ha; simp_all
  rw [List.takeWhile_append_of_pos (by simpa using hne)]
  refine ⟨by simp, hp, ?_⟩
  intro j hj
  simp only [bne_self_eq_false, Bool.false_eq_true, not_false_eq_true, List.takeWhile_cons_of_neg,
    List.append_nil] at hj
  simpa using hb j hj

/-! ### Operands -/

theorem handleOperand_of_eq (b : Byte) (h : Handle) (e : b.toNat = h.val) : handleOperand b = some h := by
  unfold handleOperand; rw [dif_pos (by omega)]; exact congrArg some (Fin.ext e)

theorem handleOperand_of_le (b : Byte) (e : 8 ≤ b.toNat) : handleOperand b = none := by
  unfold handleOperand; rw [dif_neg (by omega)]

theorem indexOperand_of_eq (b : Byte) (i : OfferIndex) (e : b.toNat = i.val) : indexOperand b = some i := by
  unfold indexOperand; rw [dif_pos (by omega)]; exact congrArg some (Fin.ext e)

theorem indexOperand_of_lt (b : Byte) (e : 3 < b.toNat) : indexOperand b = none := by
  unfold indexOperand; rw [dif_neg (by omega)]

theorem destinationOperand_of_eq (b : Byte) (d : Nibble) (e : b.toNat = d.toNat) : destinationOperand b = some d := by
  unfold destinationOperand; rw [if_pos (by have := d.isLt; omega)]
  refine congrArg some (BitVec.eq_of_toNat_eq ?_)
  simp only [BitVec.toNat_setWidth, e]
  exact Nat.mod_eq_of_lt d.isLt

theorem destinationOperand_of_lt (b : Byte) (e : 15 < b.toNat) : destinationOperand b = none := by
  unfold destinationOperand; rw [if_neg (by omega)]

theorem kind_ofCode_code (k : Kind) : Kind.ofCode k.code = some k := by cases k <;> rfl

theorem kind_ofCode_eq_none (n : Nibble) : Kind.ofCode n = none ↔ ∀ k : Kind, k.code ≠ n := by
  constructor
  · rintro h k rfl; rw [kind_ofCode_code] at h; exact absurd h (by simp)
  · intro h
    have h1 := h .data; have h2 := h .probe; have h3 := h .broadcast; have h4 := h .collect
    simp only [Kind.code] at h1 h2 h3 h4
    unfold Kind.ofCode
    rw [if_neg h1.symm, if_neg h2.symm, if_neg h3.symm, if_neg h4.symm]

theorem destinationFits_iff (k : Kind) (d : Nibble) :
    destinationFits k d = true ↔ (k = .broadcast ↔ d = 15) := by
  cases k <;> simp [destinationFits]

/-- Which kind codes the check word covers the header of (R37). -/
theorem headerCovered_ofCode (n : Nibble) :
    headerCovered (Kind.ofCode n) = true ↔ n = 1 ∨ n = 2 ∨ n = 3 := by revert n; decide

theorem checkPasses_iff (l : LineEngine) (c : Byte) :
    l.checkPasses c = true ↔ l.frames.c0 = some l.s2 ∧ c = l.s1 := by
  simp [LineEngine.checkPasses]

/-- TABLE 3-1. -/
theorem cellsFor_table (n : Nat) :
    (n = 0 → cellsFor n = 0) ∧ (1 ≤ n → n ≤ 32 → cellsFor n = 1) ∧ (33 ≤ n → n ≤ 64 → cellsFor n = 2)
    ∧ (65 ≤ n → n ≤ 96 → cellsFor n = 3) ∧ (97 ≤ n → n ≤ 128 → cellsFor n = 4) := by unfold cellsFor; omega

/-! ### The byte written to COMMAND -/

/-- LCL's level chooses no command. -/
theorem commandOfCode_isSome (code : Byte) (low : Bool) : (commandOfCode code low).isSome = namesCommand code := by
  revert low; revert code; decide

/-- A code that names no command issues UNKNOWN COMMAND (R191). -/
theorem commandWritten_of_unnamed (code : Byte) (low : Bool) (h : namesCommand code = false) :
    commandWritten code low = .unknownCommand code := by
  rw [← commandOfCode_isSome code low, Option.isSome_eq_false_iff, Option.isNone_iff_eq_none] at h
  simp only [commandWritten, h]

/-- Whatever byte is written, the command it issues is a command of its row. -/
theorem commandWritten_wellFormed (code : Byte) (low : Bool) : (commandWritten code low).wellFormed = true := by
  revert low; revert code; decide

/-! ### Timers -/

theorem reached_iff (timer : Option Nat) (limit : Nat) :
    reached timer limit = true ↔ ∃ n, timer = some n ∧ limit ≤ n := by
  cases timer <;> simp [reached]

theorem claimTimerRuns_iff (s : State) :
    s.claimTimerRuns = true ↔ s.line.state = .joining ∨ ∃ r, s.line.state = .listener r := by
  unfold State.claimTimerRuns; split <;> simp_all

/-! ### Event flags and INT -/

theorem eventFlags_getLsbD (s : State) (i : Nat) (hi : i < 7) : s.eventFlags.getLsbD i =
    (if i = 0 then s.received else if i = 1 then s.reportWaiting else if i = 2 then s.offerTaken
     else if i = 3 then s.anySuspended else if i = 4 then s.events.lineStuck
     else if i = 5 then s.events.broadcastMissed else s.events.windowError) := by
  unfold State.eventFlags
  generalize s.received = a0; generalize s.reportWaiting = a1; generalize s.offerTaken = a2
  generalize s.anySuspended = a3; generalize s.events.lineStuck = a4; generalize s.events.broadcastMissed = a5
  generalize s.events.windowError = a6
  revert a0 a1 a2 a3 a4 a5 a6
  have : i = 0 ∨ i = 1 ∨ i = 2 ∨ i = 3 ∨ i = 4 ∨ i = 5 ∨ i = 6 := by omega
  rcases this with rfl | rfl | rfl | rfl | rfl | rfl | rfl <;> decide

theorem int_eq_true_iff (s : State) :
    s.int = true ↔ ∃ i, i < 7 ∧ s.eventFlags.getLsbD i = true ∧ s.events.enables.getLsbD i = true := by
  unfold State.int
  rw [bne_iff_ne, ne_eq, BitVec.eq_of_getLsbD_eq_iff]
  simp

/-! ### The request outputs -/

/-- R187. -/
theorem fillRequest_iff (s : State) :
    s.fillRequest = true ↔ ∃ f, s.window.fill = some f ∧ f.position < s.bufferLength f.buffer := by
  unfold State.fillRequest; split <;> simp_all

/-- R188. -/
theorem drainRequest_iff (s : State) :
    s.drainRequest = true ↔
      ∃ n head rest, s.recv.drain = some n ∧ s.recv.records = head :: rest ∧ n < head.length := by
  unfold State.drainRequest; split <;> simp_all

/-! ### The line driven -/

/-- LCL is pulled, and LCK driven, by a MASTER and by no other node (R1, R2). -/
theorem pullsLcl_iff (s : State) : s.pullsLcl = true ↔ ∃ h, s.line.state = .master h := by
  unfold State.pullsLcl; split <;> simp_all

theorem drivesLck_iff (s : State) : s.drivesLck = true ↔ ∃ h, s.line.state = .master h := by
  unfold State.drivesLck; split <;> simp_all

/-! ### The header as a listener reads it -/

/-- A header frame read by a listener that holds H0: held, and added to the sums where H0's kind covers it (R36, R37). -/
theorem headerRead_of_h0 (s : State) (fs : Frames) (f : Byte) (p : Phase) (b0 : Byte) (h0 : fs.h0 = some b0) :
    s.headerRead fs f p =
      { s with line := { s.line with
        frames := fs, phase := p
        s1 := if lo b0 = 1 ∨ lo b0 = 2 ∨ lo b0 = 3 then addMod255 s.line.s1 f else s.line.s1
        s2 := if lo b0 = 1 ∨ lo b0 = 2 ∨ lo b0 = 3 then addMod255 s.line.s2 (addMod255 s.line.s1 f)
          else s.line.s2 } } := by
  have hc : headerCovered ({ s.line with frames := fs } : LineEngine).kind = true
      ↔ (lo b0 = 1 ∨ lo b0 = 2 ∨ lo b0 = 3) := by
    simp only [LineEngine.kind, LineEngine.kindField, h0]; exact headerCovered_ofCode (lo b0)
  simp only [State.headerRead, LineEngine.addHeaderFrame]
  by_cases hk : lo b0 = 1 ∨ lo b0 = 2 ∨ lo b0 = 3
  · rw [if_pos (hc.2 hk), if_pos hk, if_pos hk]; rfl
  · rw [if_neg (fun h => hk (hc.1 h)), if_neg hk, if_neg hk]; rfl

/-! ### The shape after A and after a payload frame (TABLE 2-5) -/

theorem payloadCount_of_collect (l : LineEngine) (h : l.kind = some .collect) :
    l.payloadCount = (l.frames.l.getD 0).toNat := by simp only [LineEngine.payloadCount, h]

theorem payloadCount_of_message (l : LineEngine) (h : l.kind = some .data ∨ l.kind = some .broadcast) :
    l.payloadCount = (l.frames.h3.getD 0).toNat := by
  rcases h with h | h <;> simp only [LineEngine.payloadCount, h, LineEngine.lengthField]

theorem payloadPhase_of_not_collect (l : LineEngine) (h : l.kind ≠ some .collect) :
    l.payloadPhase = if l.kind = some .probe ∨ l.frames.h3.getD 0 = 0 then .c0 else .p 1 := by
  have hz : (l.frames.h3.getD 0).toNat = 0 ↔ l.frames.h3.getD 0 = 0 := by
    rw [← BitVec.toNat_inj]; rfl
  unfold LineEngine.payloadPhase LineEngine.payloadCount
  split
  · contradiction
  · simp_all
  · rename_i hp; simp only [LineEngine.lengthField, hz]; congr 1; simp_all

/-! ### Nodes that assemble no frame -/

/-- R3, R118: a BYSTANDER whose phase is Complete, and a node that is neither MASTER nor LISTENER, takes no frame
completion as an event. -/
theorem exec_frame_of_no_frames (s : State)
    (h : (s.line.state = .listener .bystander ∧ s.line.phase = .complete)
      ∨ ((∀ h, s.line.state ≠ .master h) ∧ ∀ r, s.line.state ≠ .listener r)) (f g : Byte) (low : Bool) :
    execH0Completes f s = .next s ∧ execH1Completes f s = .next s ∧ execH2Completes f s = .next s
    ∧ execH3Completes f s = .next s ∧ execACompletes g low s = .next s ∧ execLCompletes g low s = .next s
    ∧ execPayloadFrameCompletes f g s = .next s ∧ execC0Completes f g s = .next s
    ∧ execC1Completes f g low s = .next s ∧ execVCompletes f g low s = .next s := by
  refine ⟨?_, ?_, ?_, ?_, ?_, ?_, ?_, ?_, ?_, ?_⟩
  · unfold execH0Completes; split <;> simp_all
  · unfold execH1Completes; split <;> simp_all
  · unfold execH2Completes; split <;> simp_all
  · unfold execH3Completes; split <;> simp_all
  · unfold execACompletes; split <;> simp_all
  · unfold execLCompletes; split <;> simp_all
  · unfold execPayloadFrameCompletes; split <;> simp_all
  · unfold execC0Completes; split <;> simp_all
  · unfold execC1Completes; split <;> simp_all
  · unfold execVCompletes; split <;> simp_all

/-- R8: a frame that completes at a BYSTANDER in its phase, a master that has withdrawn in it, is held. -/
theorem exec_frame_of_withdrawn (s : State) (h : s.line.state = .listener .bystander) (f g : Byte) (low : Bool) :
    (s.line.phase = .h1 → execH1Completes f s = .next (s.holdCarried f))
    ∧ (s.line.phase = .h2 → execH2Completes f s = .next (s.holdCarried f))
    ∧ (s.line.phase = .h3 → execH3Completes f s = .next (s.holdCarried f))
    ∧ (∀ k, s.line.phase = .p k → execPayloadFrameCompletes f g s = .next (s.holdCarried f))
    ∧ (s.line.phase = .c0 → execC0Completes f g s = .next (s.holdCarried f))
    ∧ (s.line.phase = .c1 → execC1Completes f g low s = .next (s.holdCarried f))
    ∧ (s.line.phase = .v → execVCompletes f g low s = .next (s.holdCarried f)) := by
  refine ⟨?_, ?_, ?_, ?_, ?_, ?_, ?_⟩
  · intro p; simp only [execH1Completes, h, p]
  · intro p; simp only [execH2Completes, h, p]
  · intro p; simp only [execH3Completes, h, p]
  · intro k p; simp only [execPayloadFrameCompletes, h, p]
  · intro p; simp only [execC0Completes, h, p]
  · intro p; simp only [execC1Completes, h, p]
  · intro p; simp only [execVCompletes, h, p]

/-! ### The server's withdrawal -/

theorem returnOffer_withLine (s : State) (l : LineEngine) (i : OfferIndex) :
    (s.withLine l).returnOffer i = { s.returnOffer i with line := l } := by
  unfold State.returnOffer
  rw [show (s.withLine l).offerAt i = s.offerAt i from rfl]
  by_cases h : (s.offerAt i).withdrawPending = true
  · rw [if_pos h, if_pos h]; rfl
  · rw [if_neg h, if_neg h]; rfl

/-- R165: the offer returns, and the server is a BYSTANDER that assembles no further frame. -/
theorem serverWithdraws_eq (s : State) (i : OfferIndex) :
    s.serverWithdraws i =
      { s.returnOffer i with line := { s.line with state := .listener .bystander, phase := .complete } } := by
  unfold State.serverWithdraws State.returnOffer
  by_cases h : (s.offerAt i).withdrawPending = true
  · rw [if_pos h]; rfl
  · rw [if_neg h]; rfl

/-- R34, R165: at L and Pk the frame driven is first added to the sums. -/
theorem serverWithdrawsAt_eq (s : State) (i : OfferIndex) (driven : Byte) :
    s.serverWithdrawsAt i driven =
      { s.returnOffer i with line := { s.line.addFrame driven with
        state := .listener .bystander, phase := .complete } } := by
  rw [State.serverWithdrawsAt, serverWithdraws_eq, returnOffer_withLine]; rfl

end Sys2Proof.Machine
end

