-- ==== Sys2Proof/Laws/State.lean ====
section
/-! SUPPORT. One lemma for each field of the state and each of the plain updates, true by unfolding alone, so that
no proof needs to unfold a record update. -/

namespace Sys2Proof.Machine.State

/-! ### withResult -/

@[simp] theorem withResult_line (s : State) (r : ResultCode) : (s.withResult r).line = s.line := rfl
@[simp] theorem withResult_pool (s : State) (r : ResultCode) : (s.withResult r).pool = s.pool := rfl
@[simp] theorem withResult_queue (s : State) (r : ResultCode) : (s.withResult r).queue = s.queue := rfl
@[simp] theorem withResult_recv (s : State) (r : ResultCode) : (s.withResult r).recv = s.recv := rfl
@[simp] theorem withResult_offers (s : State) (r : ResultCode) : (s.withResult r).offers = s.offers := rfl
@[simp] theorem withResult_reports (s : State) (r : ResultCode) : (s.withResult r).reports = s.reports := rfl
@[simp] theorem withResult_events (s : State) (r : ResultCode) : (s.withResult r).events = s.events := rfl
@[simp] theorem withResult_window (s : State) (r : ResultCode) : (s.withResult r).window = { s.window with result := r } := rfl
@[simp] theorem withResult_busData (s : State) (r : ResultCode) : (s.withResult r).busData = s.busData := rfl
@[simp] theorem withResult_expiryCount (s : State) (r : ResultCode) : (s.withResult r).expiryCount = s.expiryCount := rfl
@[simp] theorem withResult_pending (s : State) (r : ResultCode) : (s.withResult r).pending = s.pending := rfl

/-! ### withOperandC -/

@[simp] theorem withOperandC_line (s : State) (b : Byte) : (s.withOperandC b).line = s.line := rfl
@[simp] theorem withOperandC_pool (s : State) (b : Byte) : (s.withOperandC b).pool = s.pool := rfl
@[simp] theorem withOperandC_queue (s : State) (b : Byte) : (s.withOperandC b).queue = s.queue := rfl
@[simp] theorem withOperandC_recv (s : State) (b : Byte) : (s.withOperandC b).recv = s.recv := rfl
@[simp] theorem withOperandC_offers (s : State) (b : Byte) : (s.withOperandC b).offers = s.offers := rfl
@[simp] theorem withOperandC_reports (s : State) (b : Byte) : (s.withOperandC b).reports = s.reports := rfl
@[simp] theorem withOperandC_events (s : State) (b : Byte) : (s.withOperandC b).events = s.events := rfl
@[simp] theorem withOperandC_window (s : State) (b : Byte) : (s.withOperandC b).window = { s.window with opC := b } := rfl
@[simp] theorem withOperandC_busData (s : State) (b : Byte) : (s.withOperandC b).busData = s.busData := rfl
@[simp] theorem withOperandC_expiryCount (s : State) (b : Byte) : (s.withOperandC b).expiryCount = s.expiryCount := rfl
@[simp] theorem withOperandC_pending (s : State) (b : Byte) : (s.withOperandC b).pending = s.pending := rfl

/-! ### withFill -/

@[simp] theorem withFill_line (s : State) (f : Option FillCursor) : (s.withFill f).line = s.line := rfl
@[simp] theorem withFill_pool (s : State) (f : Option FillCursor) : (s.withFill f).pool = s.pool := rfl
@[simp] theorem withFill_queue (s : State) (f : Option FillCursor) : (s.withFill f).queue = s.queue := rfl
@[simp] theorem withFill_recv (s : State) (f : Option FillCursor) : (s.withFill f).recv = s.recv := rfl
@[simp] theorem withFill_offers (s : State) (f : Option FillCursor) : (s.withFill f).offers = s.offers := rfl
@[simp] theorem withFill_reports (s : State) (f : Option FillCursor) : (s.withFill f).reports = s.reports := rfl
@[simp] theorem withFill_events (s : State) (f : Option FillCursor) : (s.withFill f).events = s.events := rfl
@[simp] theorem withFill_window (s : State) (f : Option FillCursor) : (s.withFill f).window = { s.window with fill := f } := rfl
@[simp] theorem withFill_busData (s : State) (f : Option FillCursor) : (s.withFill f).busData = s.busData := rfl
@[simp] theorem withFill_expiryCount (s : State) (f : Option FillCursor) : (s.withFill f).expiryCount = s.expiryCount := rfl
@[simp] theorem withFill_pending (s : State) (f : Option FillCursor) : (s.withFill f).pending = s.pending := rfl

/-! ### windowError -/

@[simp] theorem windowError_line (s : State) : (s.windowError).line = s.line := rfl
@[simp] theorem windowError_pool (s : State) : (s.windowError).pool = s.pool := rfl
@[simp] theorem windowError_queue (s : State) : (s.windowError).queue = s.queue := rfl
@[simp] theorem windowError_recv (s : State) : (s.windowError).recv = s.recv := rfl
@[simp] theorem windowError_offers (s : State) : (s.windowError).offers = s.offers := rfl
@[simp] theorem windowError_reports (s : State) : (s.windowError).reports = s.reports := rfl
@[simp] theorem windowError_events (s : State) : (s.windowError).events = { s.events with windowError := true } := rfl
@[simp] theorem windowError_window (s : State) : (s.windowError).window = s.window := rfl
@[simp] theorem windowError_busData (s : State) : (s.windowError).busData = s.busData := rfl
@[simp] theorem windowError_expiryCount (s : State) : (s.windowError).expiryCount = s.expiryCount := rfl
@[simp] theorem windowError_pending (s : State) : (s.windowError).pending = s.pending := rfl

/-! ### withStats -/

@[simp] theorem withStats_line (s : State) (c : Statistics) : (s.withStats c).line = s.line := rfl
@[simp] theorem withStats_pool (s : State) (c : Statistics) : (s.withStats c).pool = s.pool := rfl
@[simp] theorem withStats_queue (s : State) (c : Statistics) : (s.withStats c).queue = s.queue := rfl
@[simp] theorem withStats_recv (s : State) (c : Statistics) : (s.withStats c).recv = s.recv := rfl
@[simp] theorem withStats_offers (s : State) (c : Statistics) : (s.withStats c).offers = s.offers := rfl
@[simp] theorem withStats_reports (s : State) (c : Statistics) : (s.withStats c).reports = s.reports := rfl
@[simp] theorem withStats_events (s : State) (c : Statistics) : (s.withStats c).events = s.events := rfl
@[simp] theorem withStats_window (s : State) (c : Statistics) : (s.withStats c).window = { s.window with stats := c } := rfl
@[simp] theorem withStats_busData (s : State) (c : Statistics) : (s.withStats c).busData = s.busData := rfl
@[simp] theorem withStats_expiryCount (s : State) (c : Statistics) : (s.withStats c).expiryCount = s.expiryCount := rfl
@[simp] theorem withStats_pending (s : State) (c : Statistics) : (s.withStats c).pending = s.pending := rfl

/-! ### withLine -/

@[simp] theorem withLine_line (s : State) (l : LineEngine) : (s.withLine l).line = l := rfl
@[simp] theorem withLine_pool (s : State) (l : LineEngine) : (s.withLine l).pool = s.pool := rfl
@[simp] theorem withLine_queue (s : State) (l : LineEngine) : (s.withLine l).queue = s.queue := rfl
@[simp] theorem withLine_recv (s : State) (l : LineEngine) : (s.withLine l).recv = s.recv := rfl
@[simp] theorem withLine_offers (s : State) (l : LineEngine) : (s.withLine l).offers = s.offers := rfl
@[simp] theorem withLine_reports (s : State) (l : LineEngine) : (s.withLine l).reports = s.reports := rfl
@[simp] theorem withLine_events (s : State) (l : LineEngine) : (s.withLine l).events = s.events := rfl
@[simp] theorem withLine_window (s : State) (l : LineEngine) : (s.withLine l).window = s.window := rfl
@[simp] theorem withLine_busData (s : State) (l : LineEngine) : (s.withLine l).busData = s.busData := rfl
@[simp] theorem withLine_expiryCount (s : State) (l : LineEngine) : (s.withLine l).expiryCount = s.expiryCount := rfl
@[simp] theorem withLine_pending (s : State) (l : LineEngine) : (s.withLine l).pending = s.pending := rfl

/-! ### withPool -/

@[simp] theorem withPool_line (s : State) (p : Pool) : (s.withPool p).line = s.line := rfl
@[simp] theorem withPool_pool (s : State) (p : Pool) : (s.withPool p).pool = p := rfl
@[simp] theorem withPool_queue (s : State) (p : Pool) : (s.withPool p).queue = s.queue := rfl
@[simp] theorem withPool_recv (s : State) (p : Pool) : (s.withPool p).recv = s.recv := rfl
@[simp] theorem withPool_offers (s : State) (p : Pool) : (s.withPool p).offers = s.offers := rfl
@[simp] theorem withPool_reports (s : State) (p : Pool) : (s.withPool p).reports = s.reports := rfl
@[simp] theorem withPool_events (s : State) (p : Pool) : (s.withPool p).events = s.events := rfl
@[simp] theorem withPool_window (s : State) (p : Pool) : (s.withPool p).window = s.window := rfl
@[simp] theorem withPool_busData (s : State) (p : Pool) : (s.withPool p).busData = s.busData := rfl
@[simp] theorem withPool_expiryCount (s : State) (p : Pool) : (s.withPool p).expiryCount = s.expiryCount := rfl
@[simp] theorem withPool_pending (s : State) (p : Pool) : (s.withPool p).pending = s.pending := rfl

/-! ### withRecv -/

@[simp] theorem withRecv_line (s : State) (r : ReceiveList) : (s.withRecv r).line = s.line := rfl
@[simp] theorem withRecv_pool (s : State) (r : ReceiveList) : (s.withRecv r).pool = s.pool := rfl
@[simp] theorem withRecv_queue (s : State) (r : ReceiveList) : (s.withRecv r).queue = s.queue := rfl
@[simp] theorem withRecv_recv (s : State) (r : ReceiveList) : (s.withRecv r).recv = r := rfl
@[simp] theorem withRecv_offers (s : State) (r : ReceiveList) : (s.withRecv r).offers = s.offers := rfl
@[simp] theorem withRecv_reports (s : State) (r : ReceiveList) : (s.withRecv r).reports = s.reports := rfl
@[simp] theorem withRecv_events (s : State) (r : ReceiveList) : (s.withRecv r).events = s.events := rfl
@[simp] theorem withRecv_window (s : State) (r : ReceiveList) : (s.withRecv r).window = s.window := rfl
@[simp] theorem withRecv_busData (s : State) (r : ReceiveList) : (s.withRecv r).busData = s.busData := rfl
@[simp] theorem withRecv_expiryCount (s : State) (r : ReceiveList) : (s.withRecv r).expiryCount = s.expiryCount := rfl
@[simp] theorem withRecv_pending (s : State) (r : ReceiveList) : (s.withRecv r).pending = s.pending := rfl

/-! ### withEntry -/

@[simp] theorem withEntry_line (s : State) (h : Handle) (e : SendEntry) : (s.withEntry h e).line = s.line := rfl
@[simp] theorem withEntry_pool (s : State) (h : Handle) (e : SendEntry) : (s.withEntry h e).pool = s.pool := rfl
@[simp] theorem withEntry_queue (s : State) (h : Handle) (e : SendEntry) : (s.withEntry h e).queue = { s.queue with entries := s.queue.entries.set h e } := rfl
@[simp] theorem withEntry_recv (s : State) (h : Handle) (e : SendEntry) : (s.withEntry h e).recv = s.recv := rfl
@[simp] theorem withEntry_offers (s : State) (h : Handle) (e : SendEntry) : (s.withEntry h e).offers = s.offers := rfl
@[simp] theorem withEntry_reports (s : State) (h : Handle) (e : SendEntry) : (s.withEntry h e).reports = s.reports := rfl
@[simp] theorem withEntry_events (s : State) (h : Handle) (e : SendEntry) : (s.withEntry h e).events = s.events := rfl
@[simp] theorem withEntry_window (s : State) (h : Handle) (e : SendEntry) : (s.withEntry h e).window = s.window := rfl
@[simp] theorem withEntry_busData (s : State) (h : Handle) (e : SendEntry) : (s.withEntry h e).busData = s.busData := rfl
@[simp] theorem withEntry_expiryCount (s : State) (h : Handle) (e : SendEntry) : (s.withEntry h e).expiryCount = s.expiryCount := rfl
@[simp] theorem withEntry_pending (s : State) (h : Handle) (e : SendEntry) : (s.withEntry h e).pending = s.pending := rfl

/-! ### withDest -/

@[simp] theorem withDest_line (s : State) (d : Nibble) (x : Destination) : (s.withDest d x).line = s.line := rfl
@[simp] theorem withDest_pool (s : State) (d : Nibble) (x : Destination) : (s.withDest d x).pool = s.pool := rfl
@[simp] theorem withDest_queue (s : State) (d : Nibble) (x : Destination) : (s.withDest d x).queue = { s.queue with dests := s.queue.dests.set d.toNat x d.isLt } := rfl
@[simp] theorem withDest_recv (s : State) (d : Nibble) (x : Destination) : (s.withDest d x).recv = s.recv := rfl
@[simp] theorem withDest_offers (s : State) (d : Nibble) (x : Destination) : (s.withDest d x).offers = s.offers := rfl
@[simp] theorem withDest_reports (s : State) (d : Nibble) (x : Destination) : (s.withDest d x).reports = s.reports := rfl
@[simp] theorem withDest_events (s : State) (d : Nibble) (x : Destination) : (s.withDest d x).events = s.events := rfl
@[simp] theorem withDest_window (s : State) (d : Nibble) (x : Destination) : (s.withDest d x).window = s.window := rfl
@[simp] theorem withDest_busData (s : State) (d : Nibble) (x : Destination) : (s.withDest d x).busData = s.busData := rfl
@[simp] theorem withDest_expiryCount (s : State) (d : Nibble) (x : Destination) : (s.withDest d x).expiryCount = s.expiryCount := rfl
@[simp] theorem withDest_pending (s : State) (d : Nibble) (x : Destination) : (s.withDest d x).pending = s.pending := rfl

/-! ### withOffer -/

@[simp] theorem withOffer_line (s : State) (i : OfferIndex) (o : Offer) : (s.withOffer i o).line = s.line := rfl
@[simp] theorem withOffer_pool (s : State) (i : OfferIndex) (o : Offer) : (s.withOffer i o).pool = s.pool := rfl
@[simp] theorem withOffer_queue (s : State) (i : OfferIndex) (o : Offer) : (s.withOffer i o).queue = s.queue := rfl
@[simp] theorem withOffer_recv (s : State) (i : OfferIndex) (o : Offer) : (s.withOffer i o).recv = s.recv := rfl
@[simp] theorem withOffer_offers (s : State) (i : OfferIndex) (o : Offer) : (s.withOffer i o).offers = { s.offers with slots := s.offers.slots.set i o } := rfl
@[simp] theorem withOffer_reports (s : State) (i : OfferIndex) (o : Offer) : (s.withOffer i o).reports = s.reports := rfl
@[simp] theorem withOffer_events (s : State) (i : OfferIndex) (o : Offer) : (s.withOffer i o).events = s.events := rfl
@[simp] theorem withOffer_window (s : State) (i : OfferIndex) (o : Offer) : (s.withOffer i o).window = s.window := rfl
@[simp] theorem withOffer_busData (s : State) (i : OfferIndex) (o : Offer) : (s.withOffer i o).busData = s.busData := rfl
@[simp] theorem withOffer_expiryCount (s : State) (i : OfferIndex) (o : Offer) : (s.withOffer i o).expiryCount = s.expiryCount := rfl
@[simp] theorem withOffer_pending (s : State) (i : OfferIndex) (o : Offer) : (s.withOffer i o).pending = s.pending := rfl

/-! ### Reading back an entry, a destination, an offer -/

@[simp] theorem entry_withEntry_self (s : State) (h : Handle) (e : SendEntry) : (s.withEntry h e).entry h = e := by
  simp [entry]

theorem entry_withEntry_ne (s : State) {h g : Handle} (e : SendEntry) (hne : g ≠ h) :
    (s.withEntry h e).entry g = s.entry g := by
  simp [entry, Fin.val_ne_of_ne hne.symm]

theorem entry_withEntry (s : State) (h g : Handle) (e : SendEntry) :
    (s.withEntry h e).entry g = if g = h then e else s.entry g := by
  by_cases hg : g = h
  · subst hg; simp
  · simp [hg, entry_withEntry_ne s e hg]

@[simp] theorem dest_withDest_self (s : State) (d : Nibble) (x : Destination) : (s.withDest d x).dest d = x := by
  simp [dest]

theorem dest_withDest_ne (s : State) {d c : Nibble} (x : Destination) (hne : c ≠ d) :
    (s.withDest d x).dest c = s.dest c := by
  have : d.toNat ≠ c.toNat := fun h => hne (BitVec.eq_of_toNat_eq h.symm)
  simp [dest, this]

theorem dest_withDest (s : State) (d c : Nibble) (x : Destination) :
    (s.withDest d x).dest c = if c = d then x else s.dest c := by
  by_cases hc : c = d
  · subst hc; simp
  · simp [hc, dest_withDest_ne s x hc]

@[simp] theorem offerAt_withOffer_self (s : State) (i : OfferIndex) (o : Offer) : (s.withOffer i o).offerAt i = o := by
  simp [offerAt]

theorem offerAt_withOffer_ne (s : State) {i j : OfferIndex} (o : Offer) (hne : j ≠ i) :
    (s.withOffer i o).offerAt j = s.offerAt j := by
  simp [offerAt, Fin.val_ne_of_ne hne.symm]

theorem offerAt_withOffer (s : State) (i j : OfferIndex) (o : Offer) :
    (s.withOffer i o).offerAt j = if j = i then o else s.offerAt j := by
  by_cases hj : j = i
  · subst hj; simp
  · simp [hj, offerAt_withOffer_ne s o hj]

/-- An entry depends on the Send Queue alone. -/
theorem entry_congr {s t : State} (hq : t.queue = s.queue) (h : Handle) : t.entry h = s.entry h := by
  simp [entry, hq]

/-- A destination depends on the Send Queue alone. -/
theorem dest_congr {s t : State} (hq : t.queue = s.queue) (d : Nibble) : t.dest d = s.dest d := by
  simp [dest, hq]

/-- An offer depends on the Offer Table alone. -/
theorem offerAt_congr {s t : State} (ho : t.offers = s.offers) (i : OfferIndex) : t.offerAt i = s.offerAt i := by
  simp [offerAt, ho]

end Sys2Proof.Machine.State
end

