-- ==== Sys2Proof/Laws/Memory.lean ====
section
/-! SUPPORT. What the Message Memory's operations do to a byte, and that each keeps the canonical form. -/

namespace Sys2Proof.Machine.Memory

/-- No cell is listed below an address. -/
def above (a : Nat) (m : Memory) : Prop := ∀ p ∈ m, a < p.1

theorem wf_iff (m : Memory) :
    m.wf = true ↔ m.Pairwise (fun p q => p.1 < q.1) ∧ ∀ p ∈ m, p.1 < 2048 ∧ p.2 ≠ unlisted := by
  induction m with
  | nil => simp [wf]
  | cons p t ih =>
    obtain ⟨a, v⟩ := p
    cases t with
    | nil => simp [wf]
    | cons q t =>
      obtain ⟨b, w⟩ := q
      simp only [wf, Bool.and_eq_true, decide_eq_true_eq, bne_iff_ne, ih, List.pairwise_cons, List.mem_cons,
        forall_eq_or_imp]
      constructor
      · rintro ⟨⟨hab, hv⟩, ⟨hb, ht⟩, ⟨hb2, hw⟩, hrest⟩
        refine ⟨⟨⟨hab, fun p hp => lt_trans hab (hb p hp)⟩, hb, ht⟩, ⟨by simp at *; omega, hv⟩, ⟨hb2, hw⟩, hrest⟩
      · rintro ⟨⟨⟨hab, _⟩, hb, ht⟩, ⟨_, hv⟩, ⟨hb2, hw⟩, hrest⟩
        exact ⟨⟨hab, hv⟩, ⟨hb, ht⟩, ⟨hb2, hw⟩, hrest⟩

/-- An address that is not listed reads as unlisted. -/
theorem read_of_notMem (m : Memory) (a : Nat) (h : ∀ p ∈ m, p.1 ≠ a) : m.read a = unlisted := by
  induction m with
  | nil => rfl
  | cons p t ih =>
    have hp : p.1 ≠ a := h p (by simp)
    simp only [read]
    rw [if_neg (fun e => hp e.symm)]
    exact ih (fun q hq => h q (by simp [hq]))

theorem mem_put {a : Nat} {v : Byte} {t : Memory} {p : Host.Cell} (hp : p ∈ put a v t) :
    (p = (a, v) ∧ v ≠ unlisted) ∨ p ∈ t := by
  unfold put at hp
  split at hp
  · exact Or.inr hp
  · rename_i hv
    rcases List.mem_cons.mp hp with h | h
    · exact Or.inl ⟨h, hv⟩
    · exact Or.inr h

/-- Every cell of a written memory is the one written or one of before. -/
theorem mem_write {m : Memory} {a : Nat} {v : Byte} {p : Host.Cell} (hp : p ∈ m.write a v) :
    (p = (a, v) ∧ v ≠ unlisted) ∨ p ∈ m := by
  induction m with
  | nil => exact mem_put hp
  | cons q t ih =>
    unfold write at hp
    split at hp
    · exact mem_put hp
    · split at hp
      · rcases mem_put hp with h | h
        · exact Or.inl h
        · exact Or.inr (by simp [h])
      · rcases List.mem_cons.mp hp with h | h
        · exact Or.inr (by simp [h])
        · rcases ih h with h' | h'
          · exact Or.inl h'
          · exact Or.inr (by simp [h'])

/-- A write keeps the canonical form. -/
theorem wf_write (m : Memory) (a : Nat) (v : Byte) (hm : m.wf = true) (ha : a < 2048) :
    (m.write a v).wf = true := by
  rw [wf_iff] at hm ⊢
  obtain ⟨hs, hb⟩ := hm
  refine ⟨?_, ?_⟩
  · induction m with
    | nil => unfold write put; split <;> simp
    | cons q t ih =>
      have hst := (List.pairwise_cons.mp hs)
      unfold write
      split
      · rename_i hlt
        unfold put
        split
        · exact hs
        · refine List.pairwise_cons.mpr ⟨?_, hs⟩
          intro p hp
          rcases List.mem_cons.mp hp with h | h
          · subst h; exact hlt
          · exact lt_trans hlt (hst.1 p h)
      · split
        · rename_i heq
          subst heq
          unfold put
          split
          · exact hst.2
          · exact List.pairwise_cons.mpr ⟨hst.1, hst.2⟩
        · rename_i h1 h2
          refine List.pairwise_cons.mpr ⟨?_, ih hst.2 (fun p hp => hb p (by simp [hp]))⟩
          intro p hp
          rcases mem_write hp with ⟨h, _⟩ | h
          · subst h; simp at h1 h2 ⊢; omega
          · exact hst.1 p h
  · intro p hp
    rcases mem_write hp with ⟨h, hv⟩ | h
    · subst h; exact ⟨ha, hv⟩
    · exact hb p h

/-- Zero-filling a cell keeps the canonical form. -/
theorem wf_zeroCell (m : Memory) (c : CellNumber) (hm : m.wf = true) : (m.zeroCell c).wf = true := by
  rw [wf_iff] at hm ⊢
  exact ⟨hm.1.filter _, fun p hp => hm.2 p (List.mem_filter.mp hp).1⟩

/-- Zero-filling a chain keeps the canonical form. -/
theorem wf_foldl_zeroCell (cs : List CellNumber) (m : Memory) (hm : m.wf = true) :
    (cs.foldl zeroCell m).wf = true := by
  induction cs generalizing m with
  | nil => exact hm
  | cons c cs ih => exact ih _ (wf_zeroCell m c hm)

theorem read_put (t : Memory) (a b : Nat) (v : Byte) (ht : ∀ p ∈ t, a < p.1) :
    (put a v t).read b = if b = a then v else t.read b := by
  unfold put
  split
  · rename_i hv
    split
    · rename_i h; subst h; rw [hv]; exact read_of_notMem t b (fun p hp => Nat.ne_of_gt (ht p hp))
    · rfl
  · rfl

/-- What a byte reads after a write: the byte written, or as before. -/
theorem read_write (m : Memory) (a b : Nat) (v : Byte) (hm : m.wf = true) :
    (m.write a v).read b = if b = a then v else m.read b := by
  rw [wf_iff] at hm
  have hs := hm.1
  clear hm
  induction m with
  | nil => exact read_put [] a b v (by simp)
  | cons q t ih =>
    have hst := List.pairwise_cons.mp hs
    unfold write
    split
    · rename_i hlt
      refine read_put _ a b v ?_
      intro p hp
      rcases List.mem_cons.mp hp with h | h
      · subst h; exact hlt
      · exact lt_trans hlt (hst.1 p h)
    · split
      · rename_i heq
        rw [read_put _ a b v (fun p hp => heq ▸ hst.1 p hp)]
        split
        · rfl
        · rename_i hba
          simp only [read]
          rw [if_neg (fun e => hba (e.trans heq.symm))]
      · rename_i h1 h2
        simp only [read]
        rw [ih hst.2]
        split
        · rename_i hb
          rw [if_neg (fun e => h2 (e.symm.trans hb))]
        · rfl

/-- What a byte reads after a cell is zero-filled: 0 in the cell, as before outside it (R43). -/
theorem read_zeroCell (m : Memory) (c : CellNumber) (b : Nat) :
    (m.zeroCell c).read b = if b / 32 = c.val then unlisted else m.read b := by
  induction m with
  | nil => simp [zeroCell, read]
  | cons q t ih =>
    obtain ⟨a, v⟩ := q
    unfold zeroCell at ih ⊢
    by_cases ha : a / 32 = c.val
    · simp only [List.filter_cons, ha, bne_self_eq_false]
      simp only [Bool.false_eq_true, if_false, ih, read]
      split
      · rfl
      · rename_i h
        rw [if_neg (fun e => h (by rw [e]; exact ha))]
    · have hk : (decide True && (a / 32 != c.val)) = true := by simp [ha]
      simp only [List.filter_cons]
      rw [if_pos (by simpa using ha)]
      simp only [read, ih]
      by_cases hb : b = a
      · subst hb; simp [ha]
      · simp [hb]

/-- What a byte reads after the cells of a chain are zero-filled. -/
theorem read_foldl_zeroCell (cs : List CellNumber) (m : Memory) (b : Nat) :
    (cs.foldl zeroCell m).read b = if ∃ c ∈ cs, b / 32 = c.val then unlisted else m.read b := by
  induction cs generalizing m with
  | nil => simp
  | cons c cs ih =>
    rw [List.foldl_cons, ih, read_zeroCell]
    by_cases h : b / 32 = c.val
    · simp [h]
    · simp [h]

end Sys2Proof.Machine.Memory

namespace Sys2Proof.Machine

/-- A chain lies within the 2048 bytes. -/
theorem chainAddress_lt {cells : List CellNumber} {k a : Nat} (h : chainAddress cells k = some a) : a < 2048 := by
  unfold chainAddress at h
  cases hc : cells[k / 32]? with
  | none => simp [hc] at h
  | some c =>
    simp [hc] at h
    have := c.isLt
    omega

namespace Pool

/-- Writing a byte of a chain keeps the canonical form. -/
theorem wf_writeByte (p : Pool) (cells : List CellNumber) (k : Nat) (v : Byte) (hp : p.mem.wf = true) :
    (p.writeByte cells k v).mem.wf = true := by
  unfold writeByte
  split
  · rename_i a ha; exact Memory.wf_write _ _ _ hp (chainAddress_lt ha)
  · exact hp

/-- An allocation keeps the canonical form. -/
theorem wf_allocate (p : Pool) (n : Nat) (o : Owner) (hp : p.mem.wf = true) : (p.allocate n o).mem.wf = true :=
  Memory.wf_foldl_zeroCell _ _ hp

@[simp] theorem setOwner_mem (p : Pool) (cells : List CellNumber) (o : Owner) : (p.setOwner cells o).mem = p.mem := rfl

@[simp] theorem release_mem (p : Pool) (cells : List CellNumber) : (p.release cells).mem = p.mem := rfl

@[simp] theorem writeByte_owners (p : Pool) (cells : List CellNumber) (k : Nat) (v : Byte) :
    (p.writeByte cells k v).owners = p.owners := by
  unfold writeByte; split <;> rfl

/-- The owner of a cell after the cells of a chain are given to an owner. -/
theorem owners_setOwner (p : Pool) (cells : List CellNumber) (o : Owner) (c : CellNumber) :
    (p.setOwner cells o).owners[c] = if c ∈ cells then o else p.owners[c] := by
  unfold setOwner
  simp only
  generalize p.owners = v
  induction cells generalizing v with
  | nil => simp
  | cons d cells ih =>
    rw [List.foldl_cons, ih]
    by_cases hc : c ∈ cells
    · simp [hc]
    · by_cases hd : c = d
      · subst hd; simp [hc]
      · have : d.val ≠ c.val := fun e => hd (Fin.ext e.symm)
        simp [hc, hd, this]

/-- The owner of a cell after a release. -/
theorem owners_release (p : Pool) (cells : List CellNumber) (c : CellNumber) :
    (p.release cells).owners[c] = if c ∈ cells then .free else p.owners[c] := owners_setOwner p cells .free c

/-- The owner of a cell after an allocation. -/
theorem owners_allocate (p : Pool) (n : Nat) (o : Owner) (c : CellNumber) :
    (p.allocate n o).owners[c] = if c ∈ p.lowest n then o else p.owners[c] := owners_setOwner p (p.lowest n) o c

theorem mem_freeCells (p : Pool) (c : CellNumber) : c ∈ p.freeCells ↔ p.owners[c] = .free := by
  simp [freeCells]

theorem freeCells_nodup (p : Pool) : p.freeCells.Nodup := (List.nodup_finRange 64).filter _

/-- The chain an allocation takes: free cells, each once. -/
theorem free_of_mem_lowest (p : Pool) (n : Nat) {c : CellNumber} (hc : c ∈ p.lowest n) : p.owners[c] = .free :=
  (mem_freeCells p c).mp (List.mem_of_mem_take hc)

theorem lowest_nodup (p : Pool) (n : Nat) : (p.lowest n).Nodup :=
  (freeCells_nodup p).sublist (List.take_sublist _ _)

/-- A granted intake allocation has all the cells it needs (R42). -/
theorem lowest_length_of_grantsIntake (p : Pool) (n : Nat) (h : p.grantsIntake n = true) :
    (p.lowest n).length = cellsFor n := by
  have h' : cellsFor n ≤ p.freeCells.length := of_decide_eq_true h
  simp only [lowest, List.length_take]
  omega

/-- A granted host allocation has all the cells it needs (R41). -/
theorem lowest_length_of_grantsHost (p : Pool) (r n : Nat) (h : p.grantsHost r n = true) :
    (p.lowest n).length = cellsFor n := by
  have h' : r + cellsFor n ≤ p.freeCells.length := of_decide_eq_true h
  simp only [lowest, List.length_take]
  omega

end Pool
end Sys2Proof.Machine
end

