-- ==== Sys2Proof/Laws/Ops.lean ====
section
/-! SUPPORT. What each shared operation leaves as it was: one lemma for each block (or each field of a block it changes in
part) that the operation does not write, in the order of Machine/Ops.lean; then what a finish does to the entries, and
that the operations keep the memory in its canonical form. -/

namespace Sys2Proof.Machine.State

/-! ### Finishing and the ends of an attempt -/

@[simp] theorem leaveQueue_line (s : State) (h : Handle) : (s.leaveQueue h).line = s.line := rfl
@[simp] theorem leaveQueue_pool_mem (s : State) (h : Handle) : (s.leaveQueue h).pool.mem = s.pool.mem := rfl
@[simp] theorem leaveQueue_queue_postCounter (s : State) (h : Handle) : (s.leaveQueue h).queue.postCounter = s.queue.postCounter := rfl
@[simp] theorem leaveQueue_queue_halted (s : State) (h : Handle) : (s.leaveQueue h).queue.halted = s.queue.halted := rfl
@[simp] theorem leaveQueue_queue_dests (s : State) (h : Handle) : (s.leaveQueue h).queue.dests = s.queue.dests := rfl
@[simp] theorem leaveQueue_recv (s : State) (h : Handle) : (s.leaveQueue h).recv = s.recv := rfl
@[simp] theorem leaveQueue_offers (s : State) (h : Handle) : (s.leaveQueue h).offers = s.offers := rfl
@[simp] theorem leaveQueue_reports (s : State) (h : Handle) : (s.leaveQueue h).reports = s.reports := rfl
@[simp] theorem leaveQueue_events (s : State) (h : Handle) : (s.leaveQueue h).events = s.events := rfl
@[simp] theorem leaveQueue_window (s : State) (h : Handle) : (s.leaveQueue h).window = s.window := rfl
@[simp] theorem leaveQueue_busData (s : State) (h : Handle) : (s.leaveQueue h).busData = s.busData := rfl
@[simp] theorem leaveQueue_expiryCount (s : State) (h : Handle) : (s.leaveQueue h).expiryCount = s.expiryCount := rfl
@[simp] theorem leaveQueue_pending (s : State) (h : Handle) : (s.leaveQueue h).pending = s.pending := rfl

@[simp] theorem finish_line (s : State) (h : Handle) (o : SendOutcome) : (s.finish h o).line = s.line :=
  by unfold finish; split <;> rfl
@[simp] theorem finish_pool_mem (s : State) (h : Handle) (o : SendOutcome) : (s.finish h o).pool.mem = s.pool.mem :=
  by unfold finish; split <;> rfl
@[simp] theorem finish_queue_postCounter (s : State) (h : Handle) (o : SendOutcome) : (s.finish h o).queue.postCounter = s.queue.postCounter :=
  by unfold finish; split <;> rfl
@[simp] theorem finish_queue_halted (s : State) (h : Handle) (o : SendOutcome) : (s.finish h o).queue.halted = s.queue.halted :=
  by unfold finish; split <;> rfl
@[simp] theorem finish_queue_dests (s : State) (h : Handle) (o : SendOutcome) : (s.finish h o).queue.dests = s.queue.dests :=
  by unfold finish; split <;> rfl
@[simp] theorem finish_recv (s : State) (h : Handle) (o : SendOutcome) : (s.finish h o).recv = s.recv :=
  by unfold finish; split <;> rfl
@[simp] theorem finish_offers (s : State) (h : Handle) (o : SendOutcome) : (s.finish h o).offers = s.offers :=
  by unfold finish; split <;> rfl
@[simp] theorem finish_events (s : State) (h : Handle) (o : SendOutcome) : (s.finish h o).events = s.events :=
  by unfold finish; split <;> rfl
@[simp] theorem finish_window (s : State) (h : Handle) (o : SendOutcome) : (s.finish h o).window = s.window :=
  by unfold finish; split <;> rfl
@[simp] theorem finish_busData (s : State) (h : Handle) (o : SendOutcome) : (s.finish h o).busData = s.busData :=
  by unfold finish; split <;> rfl
@[simp] theorem finish_expiryCount (s : State) (h : Handle) (o : SendOutcome) : (s.finish h o).expiryCount = s.expiryCount :=
  by unfold finish; split <;> rfl
@[simp] theorem finish_pending (s : State) (h : Handle) (o : SendOutcome) : (s.finish h o).pending = s.pending :=
  by unfold finish; split <;> rfl

@[simp] theorem suspend_line (s : State) (d : Nibble) (n : Byte) : (s.suspend d n).line = s.line := rfl
@[simp] theorem suspend_pool (s : State) (d : Nibble) (n : Byte) : (s.suspend d n).pool = s.pool := rfl
@[simp] theorem suspend_queue_postCounter (s : State) (d : Nibble) (n : Byte) : (s.suspend d n).queue.postCounter = s.queue.postCounter := rfl
@[simp] theorem suspend_queue_halted (s : State) (d : Nibble) (n : Byte) : (s.suspend d n).queue.halted = s.queue.halted := rfl
@[simp] theorem suspend_queue_order (s : State) (d : Nibble) (n : Byte) : (s.suspend d n).queue.order = s.queue.order := rfl
@[simp] theorem suspend_recv (s : State) (d : Nibble) (n : Byte) : (s.suspend d n).recv = s.recv := rfl
@[simp] theorem suspend_offers (s : State) (d : Nibble) (n : Byte) : (s.suspend d n).offers = s.offers := rfl
@[simp] theorem suspend_reports (s : State) (d : Nibble) (n : Byte) : (s.suspend d n).reports = s.reports := rfl
@[simp] theorem suspend_events (s : State) (d : Nibble) (n : Byte) : (s.suspend d n).events = s.events := rfl
@[simp] theorem suspend_window (s : State) (d : Nibble) (n : Byte) : (s.suspend d n).window = s.window := rfl
@[simp] theorem suspend_busData (s : State) (d : Nibble) (n : Byte) : (s.suspend d n).busData = s.busData := rfl
@[simp] theorem suspend_expiryCount (s : State) (d : Nibble) (n : Byte) : (s.suspend d n).expiryCount = s.expiryCount := rfl
@[simp] theorem suspend_pending (s : State) (d : Nibble) (n : Byte) : (s.suspend d n).pending = s.pending := rfl

@[simp] theorem clearFresh_line (s : State) (d : Nibble) : (s.clearFresh d).line = s.line := rfl
@[simp] theorem clearFresh_pool (s : State) (d : Nibble) : (s.clearFresh d).pool = s.pool := rfl
@[simp] theorem clearFresh_queue_postCounter (s : State) (d : Nibble) : (s.clearFresh d).queue.postCounter = s.queue.postCounter := rfl
@[simp] theorem clearFresh_queue_halted (s : State) (d : Nibble) : (s.clearFresh d).queue.halted = s.queue.halted := rfl
@[simp] theorem clearFresh_queue_order (s : State) (d : Nibble) : (s.clearFresh d).queue.order = s.queue.order := rfl
@[simp] theorem clearFresh_recv (s : State) (d : Nibble) : (s.clearFresh d).recv = s.recv := rfl
@[simp] theorem clearFresh_offers (s : State) (d : Nibble) : (s.clearFresh d).offers = s.offers := rfl
@[simp] theorem clearFresh_reports (s : State) (d : Nibble) : (s.clearFresh d).reports = s.reports := rfl
@[simp] theorem clearFresh_events (s : State) (d : Nibble) : (s.clearFresh d).events = s.events := rfl
@[simp] theorem clearFresh_window (s : State) (d : Nibble) : (s.clearFresh d).window = s.window := rfl
@[simp] theorem clearFresh_busData (s : State) (d : Nibble) : (s.clearFresh d).busData = s.busData := rfl
@[simp] theorem clearFresh_expiryCount (s : State) (d : Nibble) : (s.clearFresh d).expiryCount = s.expiryCount := rfl
@[simp] theorem clearFresh_pending (s : State) (d : Nibble) : (s.clearFresh d).pending = s.pending := rfl

@[simp] theorem settle_line (s : State) (h : Handle) (o : SendOutcome) : (s.settle h o).line = s.line :=
  by cases o <;> simp only [settle] <;> (try split) <;> simp
@[simp] theorem settle_pool_mem (s : State) (h : Handle) (o : SendOutcome) : (s.settle h o).pool.mem = s.pool.mem :=
  by cases o <;> simp only [settle] <;> (try split) <;> simp
@[simp] theorem settle_queue_postCounter (s : State) (h : Handle) (o : SendOutcome) : (s.settle h o).queue.postCounter = s.queue.postCounter :=
  by cases o <;> simp only [settle] <;> (try split) <;> simp
@[simp] theorem settle_queue_halted (s : State) (h : Handle) (o : SendOutcome) : (s.settle h o).queue.halted = s.queue.halted :=
  by cases o <;> simp only [settle] <;> (try split) <;> simp
@[simp] theorem settle_recv (s : State) (h : Handle) (o : SendOutcome) : (s.settle h o).recv = s.recv :=
  by cases o <;> simp only [settle] <;> (try split) <;> simp
@[simp] theorem settle_offers (s : State) (h : Handle) (o : SendOutcome) : (s.settle h o).offers = s.offers :=
  by cases o <;> simp only [settle] <;> (try split) <;> simp
@[simp] theorem settle_events (s : State) (h : Handle) (o : SendOutcome) : (s.settle h o).events = s.events :=
  by cases o <;> simp only [settle] <;> (try split) <;> simp
@[simp] theorem settle_window (s : State) (h : Handle) (o : SendOutcome) : (s.settle h o).window = s.window :=
  by cases o <;> simp only [settle] <;> (try split) <;> simp
@[simp] theorem settle_busData (s : State) (h : Handle) (o : SendOutcome) : (s.settle h o).busData = s.busData :=
  by cases o <;> simp only [settle] <;> (try split) <;> simp
@[simp] theorem settle_expiryCount (s : State) (h : Handle) (o : SendOutcome) : (s.settle h o).expiryCount = s.expiryCount :=
  by cases o <;> simp only [settle] <;> (try split) <;> simp
@[simp] theorem settle_pending (s : State) (h : Handle) (o : SendOutcome) : (s.settle h o).pending = s.pending :=
  by cases o <;> simp only [settle] <;> (try split) <;> simp

@[simp] theorem countAttempt_line (s : State) (h : Handle) (r : Reason) : (s.countAttempt h r).line = s.line := rfl
@[simp] theorem countAttempt_pool (s : State) (h : Handle) (r : Reason) : (s.countAttempt h r).pool = s.pool := rfl
@[simp] theorem countAttempt_queue_postCounter (s : State) (h : Handle) (r : Reason) : (s.countAttempt h r).queue.postCounter = s.queue.postCounter := rfl
@[simp] theorem countAttempt_queue_halted (s : State) (h : Handle) (r : Reason) : (s.countAttempt h r).queue.halted = s.queue.halted := rfl
@[simp] theorem countAttempt_queue_order (s : State) (h : Handle) (r : Reason) : (s.countAttempt h r).queue.order = s.queue.order := rfl
@[simp] theorem countAttempt_queue_dests (s : State) (h : Handle) (r : Reason) : (s.countAttempt h r).queue.dests = s.queue.dests := rfl
@[simp] theorem countAttempt_recv (s : State) (h : Handle) (r : Reason) : (s.countAttempt h r).recv = s.recv := rfl
@[simp] theorem countAttempt_offers (s : State) (h : Handle) (r : Reason) : (s.countAttempt h r).offers = s.offers := rfl
@[simp] theorem countAttempt_reports (s : State) (h : Handle) (r : Reason) : (s.countAttempt h r).reports = s.reports := rfl
@[simp] theorem countAttempt_events (s : State) (h : Handle) (r : Reason) : (s.countAttempt h r).events = s.events := rfl
@[simp] theorem countAttempt_window (s : State) (h : Handle) (r : Reason) : (s.countAttempt h r).window = s.window := rfl
@[simp] theorem countAttempt_busData (s : State) (h : Handle) (r : Reason) : (s.countAttempt h r).busData = s.busData := rfl
@[simp] theorem countAttempt_expiryCount (s : State) (h : Handle) (r : Reason) : (s.countAttempt h r).expiryCount = s.expiryCount := rfl
@[simp] theorem countAttempt_pending (s : State) (h : Handle) (r : Reason) : (s.countAttempt h r).pending = s.pending := rfl

@[simp] theorem consume_line (s : State) (h : Handle) (r : Reason) : (s.consume h r).line = s.line :=
  by unfold consume; split <;> [simp; (split <;> simp)]
@[simp] theorem consume_pool_mem (s : State) (h : Handle) (r : Reason) : (s.consume h r).pool.mem = s.pool.mem :=
  by unfold consume; split <;> [simp; (split <;> simp)]
@[simp] theorem consume_queue_postCounter (s : State) (h : Handle) (r : Reason) : (s.consume h r).queue.postCounter = s.queue.postCounter :=
  by unfold consume; split <;> [simp; (split <;> simp)]
@[simp] theorem consume_queue_halted (s : State) (h : Handle) (r : Reason) : (s.consume h r).queue.halted = s.queue.halted :=
  by unfold consume; split <;> [simp; (split <;> simp)]
@[simp] theorem consume_recv (s : State) (h : Handle) (r : Reason) : (s.consume h r).recv = s.recv :=
  by unfold consume; split <;> [simp; (split <;> simp)]
@[simp] theorem consume_offers (s : State) (h : Handle) (r : Reason) : (s.consume h r).offers = s.offers :=
  by unfold consume; split <;> [simp; (split <;> simp)]
@[simp] theorem consume_events (s : State) (h : Handle) (r : Reason) : (s.consume h r).events = s.events :=
  by unfold consume; split <;> [simp; (split <;> simp)]
@[simp] theorem consume_window (s : State) (h : Handle) (r : Reason) : (s.consume h r).window = s.window :=
  by unfold consume; split <;> [simp; (split <;> simp)]
@[simp] theorem consume_busData (s : State) (h : Handle) (r : Reason) : (s.consume h r).busData = s.busData :=
  by unfold consume; split <;> [simp; (split <;> simp)]
@[simp] theorem consume_expiryCount (s : State) (h : Handle) (r : Reason) : (s.consume h r).expiryCount = s.expiryCount :=
  by unfold consume; split <;> [simp; (split <;> simp)]
@[simp] theorem consume_pending (s : State) (h : Handle) (r : Reason) : (s.consume h r).pending = s.pending :=
  by unfold consume; split <;> [simp; (split <;> simp)]

@[simp] theorem handBack_line (s : State) (h : Handle) : (s.handBack h).line = s.line :=
  by unfold handBack; split <;> simp
@[simp] theorem handBack_pool_mem (s : State) (h : Handle) : (s.handBack h).pool.mem = s.pool.mem :=
  by unfold handBack; split <;> simp
@[simp] theorem handBack_queue_postCounter (s : State) (h : Handle) : (s.handBack h).queue.postCounter = s.queue.postCounter :=
  by unfold handBack; split <;> simp
@[simp] theorem handBack_queue_halted (s : State) (h : Handle) : (s.handBack h).queue.halted = s.queue.halted :=
  by unfold handBack; split <;> simp
@[simp] theorem handBack_queue_dests (s : State) (h : Handle) : (s.handBack h).queue.dests = s.queue.dests :=
  by unfold handBack; split <;> simp
@[simp] theorem handBack_recv (s : State) (h : Handle) : (s.handBack h).recv = s.recv :=
  by unfold handBack; split <;> simp
@[simp] theorem handBack_offers (s : State) (h : Handle) : (s.handBack h).offers = s.offers :=
  by unfold handBack; split <;> simp
@[simp] theorem handBack_events (s : State) (h : Handle) : (s.handBack h).events = s.events :=
  by unfold handBack; split <;> simp
@[simp] theorem handBack_window (s : State) (h : Handle) : (s.handBack h).window = s.window :=
  by unfold handBack; split <;> simp
@[simp] theorem handBack_busData (s : State) (h : Handle) : (s.handBack h).busData = s.busData :=
  by unfold handBack; split <;> simp
@[simp] theorem handBack_expiryCount (s : State) (h : Handle) : (s.handBack h).expiryCount = s.expiryCount :=
  by unfold handBack; split <;> simp
@[simp] theorem handBack_pending (s : State) (h : Handle) : (s.handBack h).pending = s.pending :=
  by unfold handBack; split <;> simp

/-! ### The claim -/

@[simp] theorem claim_pool (s : State) (h : Handle) : (s.claim h).pool = s.pool := rfl
@[simp] theorem claim_queue_postCounter (s : State) (h : Handle) : (s.claim h).queue.postCounter = s.queue.postCounter := rfl
@[simp] theorem claim_queue_halted (s : State) (h : Handle) : (s.claim h).queue.halted = s.queue.halted := rfl
@[simp] theorem claim_queue_order (s : State) (h : Handle) : (s.claim h).queue.order = s.queue.order := rfl
@[simp] theorem claim_queue_dests (s : State) (h : Handle) : (s.claim h).queue.dests = s.queue.dests := rfl
@[simp] theorem claim_recv (s : State) (h : Handle) : (s.claim h).recv = s.recv := rfl
@[simp] theorem claim_offers (s : State) (h : Handle) : (s.claim h).offers = s.offers := rfl
@[simp] theorem claim_reports (s : State) (h : Handle) : (s.claim h).reports = s.reports := rfl
@[simp] theorem claim_events (s : State) (h : Handle) : (s.claim h).events = s.events := rfl
@[simp] theorem claim_window (s : State) (h : Handle) : (s.claim h).window = s.window := rfl
@[simp] theorem claim_busData (s : State) (h : Handle) : (s.claim h).busData = s.busData := rfl
@[simp] theorem claim_expiryCount (s : State) (h : Handle) : (s.claim h).expiryCount = s.expiryCount := rfl
@[simp] theorem claim_pending (s : State) (h : Handle) : (s.claim h).pending = s.pending := rfl

@[simp] theorem claimTest_pool (s : State) : s.claimTest.pool = s.pool :=
  by unfold claimTest; split <;> [(split <;> simp); rfl]
@[simp] theorem claimTest_queue_postCounter (s : State) : s.claimTest.queue.postCounter = s.queue.postCounter :=
  by unfold claimTest; split <;> [(split <;> simp); rfl]
@[simp] theorem claimTest_queue_halted (s : State) : s.claimTest.queue.halted = s.queue.halted :=
  by unfold claimTest; split <;> [(split <;> simp); rfl]
@[simp] theorem claimTest_queue_order (s : State) : s.claimTest.queue.order = s.queue.order :=
  by unfold claimTest; split <;> [(split <;> simp); rfl]
@[simp] theorem claimTest_queue_dests (s : State) : s.claimTest.queue.dests = s.queue.dests :=
  by unfold claimTest; split <;> [(split <;> simp); rfl]
@[simp] theorem claimTest_recv (s : State) : s.claimTest.recv = s.recv :=
  by unfold claimTest; split <;> [(split <;> simp); rfl]
@[simp] theorem claimTest_offers (s : State) : s.claimTest.offers = s.offers :=
  by unfold claimTest; split <;> [(split <;> simp); rfl]
@[simp] theorem claimTest_reports (s : State) : s.claimTest.reports = s.reports :=
  by unfold claimTest; split <;> [(split <;> simp); rfl]
@[simp] theorem claimTest_events (s : State) : s.claimTest.events = s.events :=
  by unfold claimTest; split <;> [(split <;> simp); rfl]
@[simp] theorem claimTest_window (s : State) : s.claimTest.window = s.window :=
  by unfold claimTest; split <;> [(split <;> simp); rfl]
@[simp] theorem claimTest_busData (s : State) : s.claimTest.busData = s.busData :=
  by unfold claimTest; split <;> [(split <;> simp); rfl]
@[simp] theorem claimTest_expiryCount (s : State) : s.claimTest.expiryCount = s.expiryCount :=
  by unfold claimTest; split <;> [(split <;> simp); rfl]
@[simp] theorem claimTest_pending (s : State) : s.claimTest.pending = s.pending :=
  by unfold claimTest; split <;> [(split <;> simp); rfl]

/-! ### The Receive List -/

@[simp] theorem commit_line (s : State) (r : ReceiveRecord) : (s.commit r).line = s.line := rfl
@[simp] theorem commit_pool (s : State) (r : ReceiveRecord) : (s.commit r).pool = s.pool := rfl
@[simp] theorem commit_queue (s : State) (r : ReceiveRecord) : (s.commit r).queue = s.queue := rfl
@[simp] theorem commit_recv_intake (s : State) (r : ReceiveRecord) : (s.commit r).recv.intake = s.recv.intake := rfl
@[simp] theorem commit_recv_sources (s : State) (r : ReceiveRecord) : (s.commit r).recv.sources = s.recv.sources := rfl
@[simp] theorem commit_offers (s : State) (r : ReceiveRecord) : (s.commit r).offers = s.offers := rfl
@[simp] theorem commit_reports (s : State) (r : ReceiveRecord) : (s.commit r).reports = s.reports := rfl
@[simp] theorem commit_events (s : State) (r : ReceiveRecord) : (s.commit r).events = s.events := rfl
@[simp] theorem commit_window (s : State) (r : ReceiveRecord) : (s.commit r).window = s.window := rfl
@[simp] theorem commit_busData (s : State) (r : ReceiveRecord) : (s.commit r).busData = s.busData := rfl
@[simp] theorem commit_expiryCount (s : State) (r : ReceiveRecord) : (s.commit r).expiryCount = s.expiryCount := rfl
@[simp] theorem commit_pending (s : State) (r : ReceiveRecord) : (s.commit r).pending = s.pending := rfl

@[simp] theorem commitIntake_line (s : State) (k : RecordKind) : (s.commitIntake k).line = s.line :=
  by unfold commitIntake; split <;> rfl
@[simp] theorem commitIntake_pool_mem (s : State) (k : RecordKind) : (s.commitIntake k).pool.mem = s.pool.mem :=
  by unfold commitIntake; split <;> rfl
@[simp] theorem commitIntake_queue (s : State) (k : RecordKind) : (s.commitIntake k).queue = s.queue :=
  by unfold commitIntake; split <;> rfl
@[simp] theorem commitIntake_recv_sources (s : State) (k : RecordKind) : (s.commitIntake k).recv.sources = s.recv.sources :=
  by unfold commitIntake; split <;> rfl
@[simp] theorem commitIntake_offers (s : State) (k : RecordKind) : (s.commitIntake k).offers = s.offers :=
  by unfold commitIntake; split <;> rfl
@[simp] theorem commitIntake_reports (s : State) (k : RecordKind) : (s.commitIntake k).reports = s.reports :=
  by unfold commitIntake; split <;> rfl
@[simp] theorem commitIntake_events (s : State) (k : RecordKind) : (s.commitIntake k).events = s.events :=
  by unfold commitIntake; split <;> rfl
@[simp] theorem commitIntake_window (s : State) (k : RecordKind) : (s.commitIntake k).window = s.window :=
  by unfold commitIntake; split <;> rfl
@[simp] theorem commitIntake_busData (s : State) (k : RecordKind) : (s.commitIntake k).busData = s.busData :=
  by unfold commitIntake; split <;> rfl
@[simp] theorem commitIntake_expiryCount (s : State) (k : RecordKind) : (s.commitIntake k).expiryCount = s.expiryCount :=
  by unfold commitIntake; split <;> rfl
@[simp] theorem commitIntake_pending (s : State) (k : RecordKind) : (s.commitIntake k).pending = s.pending :=
  by unfold commitIntake; split <;> rfl

@[simp] theorem discardIntake_line (s : State) : s.discardIntake.line = s.line := by unfold discardIntake; split <;> rfl
@[simp] theorem discardIntake_pool_mem (s : State) : s.discardIntake.pool.mem = s.pool.mem :=
  by unfold discardIntake; split <;> rfl
@[simp] theorem discardIntake_queue (s : State) : s.discardIntake.queue = s.queue :=
  by unfold discardIntake; split <;> rfl
@[simp] theorem discardIntake_recv_records (s : State) : s.discardIntake.recv.records = s.recv.records :=
  by unfold discardIntake; split <;> rfl
@[simp] theorem discardIntake_recv_arrivalCounter (s : State) : s.discardIntake.recv.arrivalCounter = s.recv.arrivalCounter :=
  by unfold discardIntake; split <;> rfl
@[simp] theorem discardIntake_recv_drain (s : State) : s.discardIntake.recv.drain = s.recv.drain :=
  by unfold discardIntake; split <;> rfl
@[simp] theorem discardIntake_recv_sources (s : State) : s.discardIntake.recv.sources = s.recv.sources :=
  by unfold discardIntake; split <;> rfl
@[simp] theorem discardIntake_offers (s : State) : s.discardIntake.offers = s.offers :=
  by unfold discardIntake; split <;> rfl
@[simp] theorem discardIntake_reports (s : State) : s.discardIntake.reports = s.reports :=
  by unfold discardIntake; split <;> rfl
@[simp] theorem discardIntake_events (s : State) : s.discardIntake.events = s.events :=
  by unfold discardIntake; split <;> rfl
@[simp] theorem discardIntake_window (s : State) : s.discardIntake.window = s.window :=
  by unfold discardIntake; split <;> rfl
@[simp] theorem discardIntake_busData (s : State) : s.discardIntake.busData = s.busData :=
  by unfold discardIntake; split <;> rfl
@[simp] theorem discardIntake_expiryCount (s : State) : s.discardIntake.expiryCount = s.expiryCount :=
  by unfold discardIntake; split <;> rfl
@[simp] theorem discardIntake_pending (s : State) : s.discardIntake.pending = s.pending :=
  by unfold discardIntake; split <;> rfl

@[simp] theorem beginIntake_line (s : State) : s.beginIntake.line = s.line := rfl
@[simp] theorem beginIntake_queue (s : State) : s.beginIntake.queue = s.queue := rfl
@[simp] theorem beginIntake_recv_records (s : State) : s.beginIntake.recv.records = s.recv.records := rfl
@[simp] theorem beginIntake_recv_arrivalCounter (s : State) : s.beginIntake.recv.arrivalCounter = s.recv.arrivalCounter := rfl
@[simp] theorem beginIntake_recv_drain (s : State) : s.beginIntake.recv.drain = s.recv.drain := rfl
@[simp] theorem beginIntake_recv_sources (s : State) : s.beginIntake.recv.sources = s.recv.sources := rfl
@[simp] theorem beginIntake_offers (s : State) : s.beginIntake.offers = s.offers := rfl
@[simp] theorem beginIntake_reports (s : State) : s.beginIntake.reports = s.reports := rfl
@[simp] theorem beginIntake_events (s : State) : s.beginIntake.events = s.events := rfl
@[simp] theorem beginIntake_window (s : State) : s.beginIntake.window = s.window := rfl
@[simp] theorem beginIntake_busData (s : State) : s.beginIntake.busData = s.busData := rfl
@[simp] theorem beginIntake_expiryCount (s : State) : s.beginIntake.expiryCount = s.expiryCount := rfl
@[simp] theorem beginIntake_pending (s : State) : s.beginIntake.pending = s.pending := rfl

@[simp] theorem writeIntake_line (s : State) (k : Nat) (f : Byte) : (s.writeIntake k f).line = s.line :=
  by unfold writeIntake; split <;> rfl
@[simp] theorem writeIntake_queue (s : State) (k : Nat) (f : Byte) : (s.writeIntake k f).queue = s.queue :=
  by unfold writeIntake; split <;> rfl
@[simp] theorem writeIntake_recv (s : State) (k : Nat) (f : Byte) : (s.writeIntake k f).recv = s.recv :=
  by unfold writeIntake; split <;> rfl
@[simp] theorem writeIntake_offers (s : State) (k : Nat) (f : Byte) : (s.writeIntake k f).offers = s.offers :=
  by unfold writeIntake; split <;> rfl
@[simp] theorem writeIntake_reports (s : State) (k : Nat) (f : Byte) : (s.writeIntake k f).reports = s.reports :=
  by unfold writeIntake; split <;> rfl
@[simp] theorem writeIntake_events (s : State) (k : Nat) (f : Byte) : (s.writeIntake k f).events = s.events :=
  by unfold writeIntake; split <;> rfl
@[simp] theorem writeIntake_window (s : State) (k : Nat) (f : Byte) : (s.writeIntake k f).window = s.window :=
  by unfold writeIntake; split <;> rfl
@[simp] theorem writeIntake_busData (s : State) (k : Nat) (f : Byte) : (s.writeIntake k f).busData = s.busData :=
  by unfold writeIntake; split <;> rfl
@[simp] theorem writeIntake_expiryCount (s : State) (k : Nat) (f : Byte) : (s.writeIntake k f).expiryCount = s.expiryCount :=
  by unfold writeIntake; split <;> rfl
@[simp] theorem writeIntake_pending (s : State) (k : Nat) (f : Byte) : (s.writeIntake k f).pending = s.pending :=
  by unfold writeIntake; split <;> rfl

@[simp] theorem withSource_line (s : State) (o : Nibble) (x : Source) : (s.withSource o x).line = s.line :=
  by unfold withSource; split <;> rfl
@[simp] theorem withSource_pool (s : State) (o : Nibble) (x : Source) : (s.withSource o x).pool = s.pool :=
  by unfold withSource; split <;> rfl
@[simp] theorem withSource_queue (s : State) (o : Nibble) (x : Source) : (s.withSource o x).queue = s.queue :=
  by unfold withSource; split <;> rfl
@[simp] theorem withSource_recv_records (s : State) (o : Nibble) (x : Source) : (s.withSource o x).recv.records = s.recv.records :=
  by unfold withSource; split <;> rfl
@[simp] theorem withSource_recv_intake (s : State) (o : Nibble) (x : Source) : (s.withSource o x).recv.intake = s.recv.intake :=
  by unfold withSource; split <;> rfl
@[simp] theorem withSource_recv_arrivalCounter (s : State) (o : Nibble) (x : Source) : (s.withSource o x).recv.arrivalCounter = s.recv.arrivalCounter :=
  by unfold withSource; split <;> rfl
@[simp] theorem withSource_recv_drain (s : State) (o : Nibble) (x : Source) : (s.withSource o x).recv.drain = s.recv.drain :=
  by unfold withSource; split <;> rfl
@[simp] theorem withSource_offers (s : State) (o : Nibble) (x : Source) : (s.withSource o x).offers = s.offers :=
  by unfold withSource; split <;> rfl
@[simp] theorem withSource_reports (s : State) (o : Nibble) (x : Source) : (s.withSource o x).reports = s.reports :=
  by unfold withSource; split <;> rfl
@[simp] theorem withSource_events (s : State) (o : Nibble) (x : Source) : (s.withSource o x).events = s.events :=
  by unfold withSource; split <;> rfl
@[simp] theorem withSource_window (s : State) (o : Nibble) (x : Source) : (s.withSource o x).window = s.window :=
  by unfold withSource; split <;> rfl
@[simp] theorem withSource_busData (s : State) (o : Nibble) (x : Source) : (s.withSource o x).busData = s.busData :=
  by unfold withSource; split <;> rfl
@[simp] theorem withSource_expiryCount (s : State) (o : Nibble) (x : Source) : (s.withSource o x).expiryCount = s.expiryCount :=
  by unfold withSource; split <;> rfl
@[simp] theorem withSource_pending (s : State) (o : Nibble) (x : Source) : (s.withSource o x).pending = s.pending :=
  by unfold withSource; split <;> rfl

@[simp] theorem noteSource_line (s : State) (o : Nibble) (g : Byte) : (s.noteSource o g).line = s.line :=
  by simp [noteSource]
@[simp] theorem noteSource_pool (s : State) (o : Nibble) (g : Byte) : (s.noteSource o g).pool = s.pool :=
  by simp [noteSource]
@[simp] theorem noteSource_queue (s : State) (o : Nibble) (g : Byte) : (s.noteSource o g).queue = s.queue :=
  by simp [noteSource]
@[simp] theorem noteSource_recv_records (s : State) (o : Nibble) (g : Byte) : (s.noteSource o g).recv.records = s.recv.records :=
  by simp [noteSource]
@[simp] theorem noteSource_recv_intake (s : State) (o : Nibble) (g : Byte) : (s.noteSource o g).recv.intake = s.recv.intake :=
  by simp [noteSource]
@[simp] theorem noteSource_recv_arrivalCounter (s : State) (o : Nibble) (g : Byte) : (s.noteSource o g).recv.arrivalCounter = s.recv.arrivalCounter :=
  by simp [noteSource]
@[simp] theorem noteSource_recv_drain (s : State) (o : Nibble) (g : Byte) : (s.noteSource o g).recv.drain = s.recv.drain :=
  by simp [noteSource]
@[simp] theorem noteSource_offers (s : State) (o : Nibble) (g : Byte) : (s.noteSource o g).offers = s.offers :=
  by simp [noteSource]
@[simp] theorem noteSource_reports (s : State) (o : Nibble) (g : Byte) : (s.noteSource o g).reports = s.reports :=
  by simp [noteSource]
@[simp] theorem noteSource_events (s : State) (o : Nibble) (g : Byte) : (s.noteSource o g).events = s.events :=
  by simp [noteSource]
@[simp] theorem noteSource_window (s : State) (o : Nibble) (g : Byte) : (s.noteSource o g).window = s.window :=
  by simp [noteSource]
@[simp] theorem noteSource_busData (s : State) (o : Nibble) (g : Byte) : (s.noteSource o g).busData = s.busData :=
  by simp [noteSource]
@[simp] theorem noteSource_expiryCount (s : State) (o : Nibble) (g : Byte) : (s.noteSource o g).expiryCount = s.expiryCount :=
  by simp [noteSource]
@[simp] theorem noteSource_pending (s : State) (o : Nibble) (g : Byte) : (s.noteSource o g).pending = s.pending :=
  by simp [noteSource]

@[simp] theorem countDuplicate_line (s : State) (o : Nibble) : (s.countDuplicate o).line = s.line :=
  by simp [countDuplicate]
@[simp] theorem countDuplicate_pool (s : State) (o : Nibble) : (s.countDuplicate o).pool = s.pool :=
  by simp [countDuplicate]
@[simp] theorem countDuplicate_queue (s : State) (o : Nibble) : (s.countDuplicate o).queue = s.queue :=
  by simp [countDuplicate]
@[simp] theorem countDuplicate_recv_records (s : State) (o : Nibble) : (s.countDuplicate o).recv.records = s.recv.records :=
  by simp [countDuplicate]
@[simp] theorem countDuplicate_recv_intake (s : State) (o : Nibble) : (s.countDuplicate o).recv.intake = s.recv.intake :=
  by simp [countDuplicate]
@[simp] theorem countDuplicate_recv_arrivalCounter (s : State) (o : Nibble) : (s.countDuplicate o).recv.arrivalCounter = s.recv.arrivalCounter :=
  by simp [countDuplicate]
@[simp] theorem countDuplicate_recv_drain (s : State) (o : Nibble) : (s.countDuplicate o).recv.drain = s.recv.drain :=
  by simp [countDuplicate]
@[simp] theorem countDuplicate_offers (s : State) (o : Nibble) : (s.countDuplicate o).offers = s.offers :=
  by simp [countDuplicate]
@[simp] theorem countDuplicate_reports (s : State) (o : Nibble) : (s.countDuplicate o).reports = s.reports :=
  by simp [countDuplicate]
@[simp] theorem countDuplicate_events (s : State) (o : Nibble) : (s.countDuplicate o).events = s.events :=
  by simp [countDuplicate]
@[simp] theorem countDuplicate_window (s : State) (o : Nibble) : (s.countDuplicate o).window = s.window :=
  by simp [countDuplicate]
@[simp] theorem countDuplicate_busData (s : State) (o : Nibble) : (s.countDuplicate o).busData = s.busData :=
  by simp [countDuplicate]
@[simp] theorem countDuplicate_expiryCount (s : State) (o : Nibble) : (s.countDuplicate o).expiryCount = s.expiryCount :=
  by simp [countDuplicate]
@[simp] theorem countDuplicate_pending (s : State) (o : Nibble) : (s.countDuplicate o).pending = s.pending :=
  by simp [countDuplicate]

@[simp] theorem missBroadcast_line (s : State) : s.missBroadcast.line = s.line := by simp [missBroadcast]
@[simp] theorem missBroadcast_pool_mem (s : State) : s.missBroadcast.pool.mem = s.pool.mem := by simp [missBroadcast]
@[simp] theorem missBroadcast_queue (s : State) : s.missBroadcast.queue = s.queue := by simp [missBroadcast]
@[simp] theorem missBroadcast_recv_records (s : State) : s.missBroadcast.recv.records = s.recv.records :=
  by simp [missBroadcast]
@[simp] theorem missBroadcast_recv_arrivalCounter (s : State) : s.missBroadcast.recv.arrivalCounter = s.recv.arrivalCounter :=
  by simp [missBroadcast]
@[simp] theorem missBroadcast_recv_drain (s : State) : s.missBroadcast.recv.drain = s.recv.drain :=
  by simp [missBroadcast]
@[simp] theorem missBroadcast_recv_sources (s : State) : s.missBroadcast.recv.sources = s.recv.sources :=
  by simp [missBroadcast]
@[simp] theorem missBroadcast_offers (s : State) : s.missBroadcast.offers = s.offers := by simp [missBroadcast]
@[simp] theorem missBroadcast_reports (s : State) : s.missBroadcast.reports = s.reports := by simp [missBroadcast]
@[simp] theorem missBroadcast_events_enables (s : State) : s.missBroadcast.events.enables = s.events.enables :=
  by simp [missBroadcast]
@[simp] theorem missBroadcast_window_settings (s : State) : s.missBroadcast.window.settings = s.window.settings :=
  by simp [missBroadcast]
@[simp] theorem missBroadcast_window_fill (s : State) : s.missBroadcast.window.fill = s.window.fill :=
  by simp [missBroadcast]
@[simp] theorem missBroadcast_window_result (s : State) : s.missBroadcast.window.result = s.window.result :=
  by simp [missBroadcast]
@[simp] theorem missBroadcast_window_opA (s : State) : s.missBroadcast.window.opA = s.window.opA :=
  by simp [missBroadcast]
@[simp] theorem missBroadcast_window_opB (s : State) : s.missBroadcast.window.opB = s.window.opB :=
  by simp [missBroadcast]
@[simp] theorem missBroadcast_window_opC (s : State) : s.missBroadcast.window.opC = s.window.opC :=
  by simp [missBroadcast]
@[simp] theorem missBroadcast_window_viewSelect (s : State) : s.missBroadcast.window.viewSelect = s.window.viewSelect :=
  by simp [missBroadcast]
@[simp] theorem missBroadcast_busData (s : State) : s.missBroadcast.busData = s.busData := by simp [missBroadcast]
@[simp] theorem missBroadcast_expiryCount (s : State) : s.missBroadcast.expiryCount = s.expiryCount :=
  by simp [missBroadcast]
@[simp] theorem missBroadcast_pending (s : State) : s.missBroadcast.pending = s.pending := by simp [missBroadcast]

/-! ### The Offer Table -/

@[simp] theorem dropOffer_line (s : State) (i : OfferIndex) (o : Offer) : (s.dropOffer i o).line = s.line := rfl
@[simp] theorem dropOffer_pool_mem (s : State) (i : OfferIndex) (o : Offer) : (s.dropOffer i o).pool.mem = s.pool.mem := rfl
@[simp] theorem dropOffer_queue (s : State) (i : OfferIndex) (o : Offer) : (s.dropOffer i o).queue = s.queue := rfl
@[simp] theorem dropOffer_recv (s : State) (i : OfferIndex) (o : Offer) : (s.dropOffer i o).recv = s.recv := rfl
@[simp] theorem dropOffer_reports (s : State) (i : OfferIndex) (o : Offer) : (s.dropOffer i o).reports = s.reports := rfl
@[simp] theorem dropOffer_events (s : State) (i : OfferIndex) (o : Offer) : (s.dropOffer i o).events = s.events := rfl
@[simp] theorem dropOffer_window (s : State) (i : OfferIndex) (o : Offer) : (s.dropOffer i o).window = s.window := rfl
@[simp] theorem dropOffer_busData (s : State) (i : OfferIndex) (o : Offer) : (s.dropOffer i o).busData = s.busData := rfl
@[simp] theorem dropOffer_expiryCount (s : State) (i : OfferIndex) (o : Offer) : (s.dropOffer i o).expiryCount = s.expiryCount := rfl
@[simp] theorem dropOffer_pending (s : State) (i : OfferIndex) (o : Offer) : (s.dropOffer i o).pending = s.pending := rfl

@[simp] theorem returnOffer_line (s : State) (i : OfferIndex) : (s.returnOffer i).line = s.line :=
  by unfold returnOffer; split <;> rfl
@[simp] theorem returnOffer_pool_mem (s : State) (i : OfferIndex) : (s.returnOffer i).pool.mem = s.pool.mem :=
  by unfold returnOffer; split <;> rfl
@[simp] theorem returnOffer_queue (s : State) (i : OfferIndex) : (s.returnOffer i).queue = s.queue :=
  by unfold returnOffer; split <;> rfl
@[simp] theorem returnOffer_recv (s : State) (i : OfferIndex) : (s.returnOffer i).recv = s.recv :=
  by unfold returnOffer; split <;> rfl
@[simp] theorem returnOffer_reports (s : State) (i : OfferIndex) : (s.returnOffer i).reports = s.reports :=
  by unfold returnOffer; split <;> rfl
@[simp] theorem returnOffer_events (s : State) (i : OfferIndex) : (s.returnOffer i).events = s.events :=
  by unfold returnOffer; split <;> rfl
@[simp] theorem returnOffer_window (s : State) (i : OfferIndex) : (s.returnOffer i).window = s.window :=
  by unfold returnOffer; split <;> rfl
@[simp] theorem returnOffer_busData (s : State) (i : OfferIndex) : (s.returnOffer i).busData = s.busData :=
  by unfold returnOffer; split <;> rfl
@[simp] theorem returnOffer_expiryCount (s : State) (i : OfferIndex) : (s.returnOffer i).expiryCount = s.expiryCount :=
  by unfold returnOffer; split <;> rfl
@[simp] theorem returnOffer_pending (s : State) (i : OfferIndex) : (s.returnOffer i).pending = s.pending :=
  by unfold returnOffer; split <;> rfl

@[simp] theorem giveOffer_line (s : State) (i : OfferIndex) (o : Nibble) : (s.giveOffer i o).line = s.line := rfl
@[simp] theorem giveOffer_pool_mem (s : State) (i : OfferIndex) (o : Nibble) : (s.giveOffer i o).pool.mem = s.pool.mem := rfl
@[simp] theorem giveOffer_queue (s : State) (i : OfferIndex) (o : Nibble) : (s.giveOffer i o).queue = s.queue := rfl
@[simp] theorem giveOffer_recv (s : State) (i : OfferIndex) (o : Nibble) : (s.giveOffer i o).recv = s.recv := rfl
@[simp] theorem giveOffer_reports (s : State) (i : OfferIndex) (o : Nibble) : (s.giveOffer i o).reports = s.reports := rfl
@[simp] theorem giveOffer_events (s : State) (i : OfferIndex) (o : Nibble) : (s.giveOffer i o).events = s.events := rfl
@[simp] theorem giveOffer_window (s : State) (i : OfferIndex) (o : Nibble) : (s.giveOffer i o).window = s.window := rfl
@[simp] theorem giveOffer_busData (s : State) (i : OfferIndex) (o : Nibble) : (s.giveOffer i o).busData = s.busData := rfl
@[simp] theorem giveOffer_expiryCount (s : State) (i : OfferIndex) (o : Nibble) : (s.giveOffer i o).expiryCount = s.expiryCount := rfl
@[simp] theorem giveOffer_pending (s : State) (i : OfferIndex) (o : Nibble) : (s.giveOffer i o).pending = s.pending := rfl

/-! ### The Line Engine -/

@[simp] theorem holdCarried_pool (s : State) (f : Byte) : (s.holdCarried f).pool = s.pool := rfl
@[simp] theorem holdCarried_queue (s : State) (f : Byte) : (s.holdCarried f).queue = s.queue := rfl
@[simp] theorem holdCarried_recv (s : State) (f : Byte) : (s.holdCarried f).recv = s.recv := rfl
@[simp] theorem holdCarried_offers (s : State) (f : Byte) : (s.holdCarried f).offers = s.offers := rfl
@[simp] theorem holdCarried_reports (s : State) (f : Byte) : (s.holdCarried f).reports = s.reports := rfl
@[simp] theorem holdCarried_events (s : State) (f : Byte) : (s.holdCarried f).events = s.events := rfl
@[simp] theorem holdCarried_window (s : State) (f : Byte) : (s.holdCarried f).window = s.window := rfl
@[simp] theorem holdCarried_busData (s : State) (f : Byte) : (s.holdCarried f).busData = s.busData := rfl
@[simp] theorem holdCarried_expiryCount (s : State) (f : Byte) : (s.holdCarried f).expiryCount = s.expiryCount := rfl
@[simp] theorem holdCarried_pending (s : State) (f : Byte) : (s.holdCarried f).pending = s.pending := rfl
@[simp] theorem holdCarried_line_state (s : State) (f : Byte) : (s.holdCarried f).line.state = s.line.state := rfl
@[simp] theorem holdCarried_line_phase (s : State) (f : Byte) : (s.holdCarried f).line.phase = .complete := rfl

/-- R9, R14: what a withdrawn master held of the frame that differed is gone once LCL is seen released. -/
theorem seeRelease_holdCarried (s : State) (f : Byte) (h : s.line.state = .listener .bystander) :
    (s.holdCarried f).seeRelease = s.seeRelease := by
  simp only [seeRelease, h, endEarly, clearHoldOff, enterSettling, holdCarried, withLine]

@[simp] theorem becomeBystander_pool (s : State) : s.becomeBystander.pool = s.pool := rfl
@[simp] theorem becomeBystander_queue (s : State) : s.becomeBystander.queue = s.queue := rfl
@[simp] theorem becomeBystander_recv (s : State) : s.becomeBystander.recv = s.recv := rfl
@[simp] theorem becomeBystander_offers (s : State) : s.becomeBystander.offers = s.offers := rfl
@[simp] theorem becomeBystander_reports (s : State) : s.becomeBystander.reports = s.reports := rfl
@[simp] theorem becomeBystander_events (s : State) : s.becomeBystander.events = s.events := rfl
@[simp] theorem becomeBystander_window (s : State) : s.becomeBystander.window = s.window := rfl
@[simp] theorem becomeBystander_busData (s : State) : s.becomeBystander.busData = s.busData := rfl
@[simp] theorem becomeBystander_expiryCount (s : State) : s.becomeBystander.expiryCount = s.expiryCount := rfl
@[simp] theorem becomeBystander_pending (s : State) : s.becomeBystander.pending = s.pending := rfl

@[simp] theorem enterSettling_pool (s : State) : s.enterSettling.pool = s.pool := rfl
@[simp] theorem enterSettling_queue (s : State) : s.enterSettling.queue = s.queue := rfl
@[simp] theorem enterSettling_recv (s : State) : s.enterSettling.recv = s.recv := rfl
@[simp] theorem enterSettling_offers (s : State) : s.enterSettling.offers = s.offers := rfl
@[simp] theorem enterSettling_reports (s : State) : s.enterSettling.reports = s.reports := rfl
@[simp] theorem enterSettling_events (s : State) : s.enterSettling.events = s.events := rfl
@[simp] theorem enterSettling_window (s : State) : s.enterSettling.window = s.window := rfl
@[simp] theorem enterSettling_busData (s : State) : s.enterSettling.busData = s.busData := rfl
@[simp] theorem enterSettling_expiryCount (s : State) : s.enterSettling.expiryCount = s.expiryCount := rfl
@[simp] theorem enterSettling_pending (s : State) : s.enterSettling.pending = s.pending := rfl

@[simp] theorem clearHoldOff_pool (s : State) : s.clearHoldOff.pool = s.pool := rfl
@[simp] theorem clearHoldOff_queue (s : State) : s.clearHoldOff.queue = s.queue := rfl
@[simp] theorem clearHoldOff_recv (s : State) : s.clearHoldOff.recv = s.recv := rfl
@[simp] theorem clearHoldOff_offers (s : State) : s.clearHoldOff.offers = s.offers := rfl
@[simp] theorem clearHoldOff_reports (s : State) : s.clearHoldOff.reports = s.reports := rfl
@[simp] theorem clearHoldOff_events (s : State) : s.clearHoldOff.events = s.events := rfl
@[simp] theorem clearHoldOff_window (s : State) : s.clearHoldOff.window = s.window := rfl
@[simp] theorem clearHoldOff_busData (s : State) : s.clearHoldOff.busData = s.busData := rfl
@[simp] theorem clearHoldOff_expiryCount (s : State) : s.clearHoldOff.expiryCount = s.expiryCount := rfl
@[simp] theorem clearHoldOff_pending (s : State) : s.clearHoldOff.pending = s.pending := rfl

@[simp] theorem releaseLine_pool (s : State) (b : Bool) : (s.releaseLine b).pool = s.pool :=
  by unfold releaseLine; split <;> rfl
@[simp] theorem releaseLine_queue (s : State) (b : Bool) : (s.releaseLine b).queue = s.queue :=
  by unfold releaseLine; split <;> rfl
@[simp] theorem releaseLine_recv (s : State) (b : Bool) : (s.releaseLine b).recv = s.recv :=
  by unfold releaseLine; split <;> rfl
@[simp] theorem releaseLine_offers (s : State) (b : Bool) : (s.releaseLine b).offers = s.offers :=
  by unfold releaseLine; split <;> rfl
@[simp] theorem releaseLine_reports (s : State) (b : Bool) : (s.releaseLine b).reports = s.reports :=
  by unfold releaseLine; split <;> rfl
@[simp] theorem releaseLine_events (s : State) (b : Bool) : (s.releaseLine b).events = s.events :=
  by unfold releaseLine; split <;> rfl
@[simp] theorem releaseLine_window (s : State) (b : Bool) : (s.releaseLine b).window = s.window :=
  by unfold releaseLine; split <;> rfl
@[simp] theorem releaseLine_busData (s : State) (b : Bool) : (s.releaseLine b).busData = s.busData :=
  by unfold releaseLine; split <;> rfl
@[simp] theorem releaseLine_expiryCount (s : State) (b : Bool) : (s.releaseLine b).expiryCount = s.expiryCount :=
  by unfold releaseLine; split <;> rfl
@[simp] theorem releaseLine_pending (s : State) (b : Bool) : (s.releaseLine b).pending = s.pending :=
  by unfold releaseLine; split <;> rfl

@[simp] theorem endEarly_line (s : State) : s.endEarly.line = s.line :=
  by unfold endEarly; split <;> (try split) <;> simp
@[simp] theorem endEarly_pool_mem (s : State) : s.endEarly.pool.mem = s.pool.mem :=
  by unfold endEarly; split <;> (try split) <;> simp
@[simp] theorem endEarly_queue (s : State) : s.endEarly.queue = s.queue :=
  by unfold endEarly; split <;> (try split) <;> simp
@[simp] theorem endEarly_recv_records (s : State) : s.endEarly.recv.records = s.recv.records :=
  by unfold endEarly; split <;> (try split) <;> simp
@[simp] theorem endEarly_recv_arrivalCounter (s : State) : s.endEarly.recv.arrivalCounter = s.recv.arrivalCounter :=
  by unfold endEarly; split <;> (try split) <;> simp
@[simp] theorem endEarly_recv_drain (s : State) : s.endEarly.recv.drain = s.recv.drain :=
  by unfold endEarly; split <;> (try split) <;> simp
@[simp] theorem endEarly_recv_sources (s : State) : s.endEarly.recv.sources = s.recv.sources :=
  by unfold endEarly; split <;> (try split) <;> simp
@[simp] theorem endEarly_reports (s : State) : s.endEarly.reports = s.reports :=
  by unfold endEarly; split <;> (try split) <;> simp
@[simp] theorem endEarly_events_enables (s : State) : s.endEarly.events.enables = s.events.enables :=
  by unfold endEarly; split <;> (try split) <;> simp
@[simp] theorem endEarly_window_settings (s : State) : s.endEarly.window.settings = s.window.settings :=
  by unfold endEarly; split <;> (try split) <;> simp
@[simp] theorem endEarly_window_fill (s : State) : s.endEarly.window.fill = s.window.fill :=
  by unfold endEarly; split <;> (try split) <;> simp
@[simp] theorem endEarly_window_result (s : State) : s.endEarly.window.result = s.window.result :=
  by unfold endEarly; split <;> (try split) <;> simp
@[simp] theorem endEarly_window_opA (s : State) : s.endEarly.window.opA = s.window.opA :=
  by unfold endEarly; split <;> (try split) <;> simp
@[simp] theorem endEarly_window_opB (s : State) : s.endEarly.window.opB = s.window.opB :=
  by unfold endEarly; split <;> (try split) <;> simp
@[simp] theorem endEarly_window_opC (s : State) : s.endEarly.window.opC = s.window.opC :=
  by unfold endEarly; split <;> (try split) <;> simp
@[simp] theorem endEarly_window_viewSelect (s : State) : s.endEarly.window.viewSelect = s.window.viewSelect :=
  by unfold endEarly; split <;> (try split) <;> simp
@[simp] theorem endEarly_busData (s : State) : s.endEarly.busData = s.busData :=
  by unfold endEarly; split <;> (try split) <;> simp
@[simp] theorem endEarly_expiryCount (s : State) : s.endEarly.expiryCount = s.expiryCount :=
  by unfold endEarly; split <;> (try split) <;> simp
@[simp] theorem endEarly_pending (s : State) : s.endEarly.pending = s.pending :=
  by unfold endEarly; split <;> (try split) <;> simp

@[simp] theorem seeRelease_pool_mem (s : State) : s.seeRelease.pool.mem = s.pool.mem :=
  by unfold seeRelease; split <;> simp
@[simp] theorem seeRelease_queue (s : State) : s.seeRelease.queue = s.queue := by unfold seeRelease; split <;> simp
@[simp] theorem seeRelease_recv_records (s : State) : s.seeRelease.recv.records = s.recv.records :=
  by unfold seeRelease; split <;> simp
@[simp] theorem seeRelease_recv_arrivalCounter (s : State) : s.seeRelease.recv.arrivalCounter = s.recv.arrivalCounter :=
  by unfold seeRelease; split <;> simp
@[simp] theorem seeRelease_recv_drain (s : State) : s.seeRelease.recv.drain = s.recv.drain :=
  by unfold seeRelease; split <;> simp
@[simp] theorem seeRelease_recv_sources (s : State) : s.seeRelease.recv.sources = s.recv.sources :=
  by unfold seeRelease; split <;> simp
@[simp] theorem seeRelease_reports (s : State) : s.seeRelease.reports = s.reports :=
  by unfold seeRelease; split <;> simp
@[simp] theorem seeRelease_events_enables (s : State) : s.seeRelease.events.enables = s.events.enables :=
  by unfold seeRelease; split <;> simp
@[simp] theorem seeRelease_window_settings (s : State) : s.seeRelease.window.settings = s.window.settings :=
  by unfold seeRelease; split <;> simp
@[simp] theorem seeRelease_window_fill (s : State) : s.seeRelease.window.fill = s.window.fill :=
  by unfold seeRelease; split <;> simp
@[simp] theorem seeRelease_window_result (s : State) : s.seeRelease.window.result = s.window.result :=
  by unfold seeRelease; split <;> simp
@[simp] theorem seeRelease_window_opA (s : State) : s.seeRelease.window.opA = s.window.opA :=
  by unfold seeRelease; split <;> simp
@[simp] theorem seeRelease_window_opB (s : State) : s.seeRelease.window.opB = s.window.opB :=
  by unfold seeRelease; split <;> simp
@[simp] theorem seeRelease_window_opC (s : State) : s.seeRelease.window.opC = s.window.opC :=
  by unfold seeRelease; split <;> simp
@[simp] theorem seeRelease_window_viewSelect (s : State) : s.seeRelease.window.viewSelect = s.window.viewSelect :=
  by unfold seeRelease; split <;> simp
@[simp] theorem seeRelease_busData (s : State) : s.seeRelease.busData = s.busData :=
  by unfold seeRelease; split <;> simp
@[simp] theorem seeRelease_expiryCount (s : State) : s.seeRelease.expiryCount = s.expiryCount :=
  by unfold seeRelease; split <;> simp
@[simp] theorem seeRelease_pending (s : State) : s.seeRelease.pending = s.pending :=
  by unfold seeRelease; split <;> simp

@[simp] theorem loseArbitration_pool_mem (s : State) (h : Handle) : (s.loseArbitration h).pool.mem = s.pool.mem :=
  by simp [loseArbitration]
@[simp] theorem loseArbitration_queue_postCounter (s : State) (h : Handle) : (s.loseArbitration h).queue.postCounter = s.queue.postCounter :=
  by simp [loseArbitration]
@[simp] theorem loseArbitration_queue_halted (s : State) (h : Handle) : (s.loseArbitration h).queue.halted = s.queue.halted :=
  by simp [loseArbitration]
@[simp] theorem loseArbitration_queue_dests (s : State) (h : Handle) : (s.loseArbitration h).queue.dests = s.queue.dests :=
  by simp [loseArbitration]
@[simp] theorem loseArbitration_recv (s : State) (h : Handle) : (s.loseArbitration h).recv = s.recv :=
  by simp [loseArbitration]
@[simp] theorem loseArbitration_offers (s : State) (h : Handle) : (s.loseArbitration h).offers = s.offers :=
  by simp [loseArbitration]
@[simp] theorem loseArbitration_events (s : State) (h : Handle) : (s.loseArbitration h).events = s.events :=
  by simp [loseArbitration]
@[simp] theorem loseArbitration_window_settings (s : State) (h : Handle) : (s.loseArbitration h).window.settings = s.window.settings :=
  by simp [loseArbitration]
@[simp] theorem loseArbitration_window_fill (s : State) (h : Handle) : (s.loseArbitration h).window.fill = s.window.fill :=
  by simp [loseArbitration]
@[simp] theorem loseArbitration_window_result (s : State) (h : Handle) : (s.loseArbitration h).window.result = s.window.result :=
  by simp [loseArbitration]
@[simp] theorem loseArbitration_window_opA (s : State) (h : Handle) : (s.loseArbitration h).window.opA = s.window.opA :=
  by simp [loseArbitration]
@[simp] theorem loseArbitration_window_opB (s : State) (h : Handle) : (s.loseArbitration h).window.opB = s.window.opB :=
  by simp [loseArbitration]
@[simp] theorem loseArbitration_window_opC (s : State) (h : Handle) : (s.loseArbitration h).window.opC = s.window.opC :=
  by simp [loseArbitration]
@[simp] theorem loseArbitration_window_viewSelect (s : State) (h : Handle) : (s.loseArbitration h).window.viewSelect = s.window.viewSelect :=
  by simp [loseArbitration]
@[simp] theorem loseArbitration_busData (s : State) (h : Handle) : (s.loseArbitration h).busData = s.busData :=
  by simp [loseArbitration]
@[simp] theorem loseArbitration_expiryCount (s : State) (h : Handle) : (s.loseArbitration h).expiryCount = s.expiryCount :=
  by simp [loseArbitration]
@[simp] theorem loseArbitration_pending (s : State) (h : Handle) : (s.loseArbitration h).pending = s.pending :=
  by simp [loseArbitration]

@[simp] theorem meetConflict_pool_mem (s : State) (h : Handle) : (s.meetConflict h).pool.mem = s.pool.mem :=
  by simp [meetConflict]
@[simp] theorem meetConflict_queue_postCounter (s : State) (h : Handle) : (s.meetConflict h).queue.postCounter = s.queue.postCounter :=
  by simp [meetConflict]
@[simp] theorem meetConflict_queue_halted (s : State) (h : Handle) : (s.meetConflict h).queue.halted = s.queue.halted :=
  by simp [meetConflict]
@[simp] theorem meetConflict_recv (s : State) (h : Handle) : (s.meetConflict h).recv = s.recv := by simp [meetConflict]
@[simp] theorem meetConflict_offers (s : State) (h : Handle) : (s.meetConflict h).offers = s.offers :=
  by simp [meetConflict]
@[simp] theorem meetConflict_events (s : State) (h : Handle) : (s.meetConflict h).events = s.events :=
  by simp [meetConflict]
@[simp] theorem meetConflict_window_settings (s : State) (h : Handle) : (s.meetConflict h).window.settings = s.window.settings :=
  by simp [meetConflict]
@[simp] theorem meetConflict_window_fill (s : State) (h : Handle) : (s.meetConflict h).window.fill = s.window.fill :=
  by simp [meetConflict]
@[simp] theorem meetConflict_window_result (s : State) (h : Handle) : (s.meetConflict h).window.result = s.window.result :=
  by simp [meetConflict]
@[simp] theorem meetConflict_window_opA (s : State) (h : Handle) : (s.meetConflict h).window.opA = s.window.opA :=
  by simp [meetConflict]
@[simp] theorem meetConflict_window_opB (s : State) (h : Handle) : (s.meetConflict h).window.opB = s.window.opB :=
  by simp [meetConflict]
@[simp] theorem meetConflict_window_opC (s : State) (h : Handle) : (s.meetConflict h).window.opC = s.window.opC :=
  by simp [meetConflict]
@[simp] theorem meetConflict_window_viewSelect (s : State) (h : Handle) : (s.meetConflict h).window.viewSelect = s.window.viewSelect :=
  by simp [meetConflict]
@[simp] theorem meetConflict_busData (s : State) (h : Handle) : (s.meetConflict h).busData = s.busData :=
  by simp [meetConflict]
@[simp] theorem meetConflict_expiryCount (s : State) (h : Handle) : (s.meetConflict h).expiryCount = s.expiryCount :=
  by simp [meetConflict]
@[simp] theorem meetConflict_pending (s : State) (h : Handle) : (s.meetConflict h).pending = s.pending :=
  by simp [meetConflict]

@[simp] theorem giveUp_line (s : State) : s.giveUp.line = s.line := by unfold giveUp; split <;> simp
@[simp] theorem giveUp_pool_mem (s : State) : s.giveUp.pool.mem = s.pool.mem := by unfold giveUp; split <;> simp
@[simp] theorem giveUp_queue (s : State) : s.giveUp.queue = s.queue := by unfold giveUp; split <;> simp
@[simp] theorem giveUp_recv_records (s : State) : s.giveUp.recv.records = s.recv.records :=
  by unfold giveUp; split <;> simp
@[simp] theorem giveUp_recv_arrivalCounter (s : State) : s.giveUp.recv.arrivalCounter = s.recv.arrivalCounter :=
  by unfold giveUp; split <;> simp
@[simp] theorem giveUp_recv_drain (s : State) : s.giveUp.recv.drain = s.recv.drain := by unfold giveUp; split <;> simp
@[simp] theorem giveUp_recv_sources (s : State) : s.giveUp.recv.sources = s.recv.sources :=
  by unfold giveUp; split <;> simp
@[simp] theorem giveUp_reports (s : State) : s.giveUp.reports = s.reports := by unfold giveUp; split <;> simp
@[simp] theorem giveUp_events (s : State) : s.giveUp.events = s.events := by unfold giveUp; split <;> simp
@[simp] theorem giveUp_window (s : State) : s.giveUp.window = s.window := by unfold giveUp; split <;> simp
@[simp] theorem giveUp_busData (s : State) : s.giveUp.busData = s.busData := by unfold giveUp; split <;> simp
@[simp] theorem giveUp_expiryCount (s : State) : s.giveUp.expiryCount = s.expiryCount :=
  by unfold giveUp; split <;> simp
@[simp] theorem giveUp_pending (s : State) : s.giveUp.pending = s.pending := by unfold giveUp; split <;> simp

@[simp] theorem lineDisabled_pool (s : State) : s.lineDisabled.pool = s.pool := rfl
@[simp] theorem lineDisabled_queue (s : State) : s.lineDisabled.queue = s.queue := rfl
@[simp] theorem lineDisabled_recv (s : State) : s.lineDisabled.recv = s.recv := rfl
@[simp] theorem lineDisabled_offers (s : State) : s.lineDisabled.offers = s.offers := rfl
@[simp] theorem lineDisabled_reports (s : State) : s.lineDisabled.reports = s.reports := rfl
@[simp] theorem lineDisabled_events (s : State) : s.lineDisabled.events = s.events := rfl
@[simp] theorem lineDisabled_window (s : State) : s.lineDisabled.window = s.window := rfl
@[simp] theorem lineDisabled_busData (s : State) : s.lineDisabled.busData = s.busData := rfl
@[simp] theorem lineDisabled_expiryCount (s : State) : s.lineDisabled.expiryCount = s.expiryCount := rfl
@[simp] theorem lineDisabled_pending (s : State) : s.lineDisabled.pending = s.pending := rfl

@[simp] theorem advance_pool (s : State) (f : Option Byte) (p : Phase) : (s.advance f p).pool = s.pool :=
  by unfold advance; split <;> rfl
@[simp] theorem advance_queue (s : State) (f : Option Byte) (p : Phase) : (s.advance f p).queue = s.queue :=
  by unfold advance; split <;> rfl
@[simp] theorem advance_recv (s : State) (f : Option Byte) (p : Phase) : (s.advance f p).recv = s.recv :=
  by unfold advance; split <;> rfl
@[simp] theorem advance_offers (s : State) (f : Option Byte) (p : Phase) : (s.advance f p).offers = s.offers :=
  by unfold advance; split <;> rfl
@[simp] theorem advance_reports (s : State) (f : Option Byte) (p : Phase) : (s.advance f p).reports = s.reports :=
  by unfold advance; split <;> rfl
@[simp] theorem advance_events (s : State) (f : Option Byte) (p : Phase) : (s.advance f p).events = s.events :=
  by unfold advance; split <;> rfl
@[simp] theorem advance_window (s : State) (f : Option Byte) (p : Phase) : (s.advance f p).window = s.window :=
  by unfold advance; split <;> rfl
@[simp] theorem advance_busData (s : State) (f : Option Byte) (p : Phase) : (s.advance f p).busData = s.busData :=
  by unfold advance; split <;> rfl
@[simp] theorem advance_expiryCount (s : State) (f : Option Byte) (p : Phase) : (s.advance f p).expiryCount = s.expiryCount :=
  by unfold advance; split <;> rfl
@[simp] theorem advance_pending (s : State) (f : Option Byte) (p : Phase) : (s.advance f p).pending = s.pending :=
  by unfold advance; split <;> rfl

/-! ### Entries and destinations after a finish -/

theorem entry_finish_ne (s : State) {h g : Handle} (o : SendOutcome) (hne : g ≠ h) :
    (s.finish h o).entry g = s.entry g := by
  unfold finish; split <;> exact entry_withEntry_ne (s.leaveQueue h) _ hne

/-- A finished entry is FREE, or FINISHED while the Report List is full (R74). -/
theorem entry_finish_self (s : State) (h : Handle) (o : SendOutcome) :
    ((s.finish h o).entry h).state = .free ∨ ((s.finish h o).entry h).state = .finished := by
  unfold finish; split
  · exact Or.inl (congrArg _ (entry_withEntry_self (s.leaveQueue h) _ _))
  · exact Or.inr (congrArg _ (entry_withEntry_self (s.leaveQueue h) _ _))

@[simp] theorem dest_finish (s : State) (h : Handle) (o : SendOutcome) (d : Nibble) : (s.finish h o).dest d = s.dest d := by
  unfold finish; split <;> rfl

/-! ### The canonical form of the memory -/

/-- The two operations that write memory keep its canonical form; every other leaves the memory as it is. -/
theorem wf_beginIntake (s : State) (hs : s.pool.mem.wf = true) : s.beginIntake.pool.mem.wf = true :=
  Pool.wf_allocate _ _ _ hs

theorem wf_writeIntake (s : State) (k : Nat) (f : Byte) (hs : s.pool.mem.wf = true) :
    (s.writeIntake k f).pool.mem.wf = true := by
  unfold writeIntake; split
  · exact hs
  · exact Pool.wf_writeByte _ _ _ _ hs

end Sys2Proof.Machine.State
end

