-- ==== Sys2Proof/Laws/Views.lean ====
section
/-! SUPPORT. What a view code shows: the registers VIEW 0 to VIEW 5 are the page that VIEW SELECT names; which page
each code is; and the fill cursor's position as a view shows it. -/

namespace Sys2Proof.Machine

namespace State

/-- A read of VIEW n is register n of the page selected (R198). -/
theorem hostRead_view (s : State) (n : Nat) (hn : n < 6) :
    s.hostRead (BitVec.ofNat 4 (10 + n)) = s.viewRegister n := by
  have : n = 0 ∨ n = 1 ∨ n = 2 ∨ n = 3 ∨ n = 4 ∨ n = 5 := by omega
  rcases this with rfl | rfl | rfl | rfl | rfl | rfl <;> rfl

theorem viewPage_sendEntry (s : State) (h : Handle) :
    s.viewPage ((0x10 + BitVec.ofNat 8 h.val : Byte).extractLsb' 0 7) ((0x10 + BitVec.ofNat 8 h.val : Byte).getLsbD 7)
      = s.viewSendEntry h := by
  have code : ∀ h : Handle, (0x10 + BitVec.ofNat 8 h.val : Byte).getLsbD 7 = false
      ∧ (0x10 + BitVec.ofNat 8 h.val : Byte).extractLsb' 0 7 ≠ 0 ∧ (0x10 + BitVec.ofNat 8 h.val : Byte).extractLsb' 0 7 ≠ 1
      ∧ ((0x10 + BitVec.ofNat 8 h.val : Byte).extractLsb' 0 7).toNat = 16 + h.val := by decide
  obtain ⟨h1, h2, h3, h4⟩ := code h
  simp only [viewPage, h1]
  rw [if_neg h2, if_neg h3, dif_pos ⟨by omega, by omega⟩]
  exact congrArg _ (Fin.ext (by simp only [h4]; omega))

theorem viewPage_sendEntryTimer (s : State) (h : Handle) :
    s.viewPage ((0x90 + BitVec.ofNat 8 h.val : Byte).extractLsb' 0 7) ((0x90 + BitVec.ofNat 8 h.val : Byte).getLsbD 7)
      = s.viewSendEntryTimer h := by
  have code : ∀ h : Handle, (0x90 + BitVec.ofNat 8 h.val : Byte).getLsbD 7 = true
      ∧ (0x90 + BitVec.ofNat 8 h.val : Byte).extractLsb' 0 7 ≠ 0
      ∧ ((0x90 + BitVec.ofNat 8 h.val : Byte).extractLsb' 0 7).toNat = 16 + h.val := by decide
  obtain ⟨h1, h2, h4⟩ := code h
  simp only [viewPage, h1]
  rw [if_neg h2, dif_pos ⟨by omega, by omega⟩]
  exact congrArg _ (Fin.ext (by simp only [h4]; omega))

theorem viewPage_offer (s : State) (i : OfferIndex) :
    s.viewPage ((0x40 + BitVec.ofNat 8 i.val : Byte).extractLsb' 0 7) ((0x40 + BitVec.ofNat 8 i.val : Byte).getLsbD 7)
      = s.viewOffer i := by
  have code : ∀ i : OfferIndex, (0x40 + BitVec.ofNat 8 i.val : Byte).getLsbD 7 = false
      ∧ (0x40 + BitVec.ofNat 8 i.val : Byte).extractLsb' 0 7 ≠ 0 ∧ (0x40 + BitVec.ofNat 8 i.val : Byte).extractLsb' 0 7 ≠ 1
      ∧ ((0x40 + BitVec.ofNat 8 i.val : Byte).extractLsb' 0 7).toNat = 64 + i.val := by decide
  obtain ⟨h1, h2, h3, h4⟩ := code i
  simp only [viewPage, h1]
  rw [if_neg h2, if_neg h3, dif_neg (by omega), if_neg (by omega), if_neg (by omega), dif_pos ⟨by omega, by omega⟩]
  exact congrArg _ (Fin.ext (by simp only [h4]; omega))

/-- R198: on page 1 only HEAD RECORD and the SEND ENTRY views show anything. -/
theorem viewPage_of_page1 (s : State) (c : Byte) (h : 0x81 ≤ c) (hn : ¬ (0x90 ≤ c ∧ c ≤ 0x97)) :
    s.viewPage (c.extractLsb' 0 7) (c.getLsbD 7) = [] := by
  have code : ∀ c : Byte, 0x81 ≤ c → ¬ (0x90 ≤ c ∧ c ≤ 0x97) → c.getLsbD 7 = true ∧ c.extractLsb' 0 7 ≠ 0
      ∧ ¬ (0x10 ≤ (c.extractLsb' 0 7).toNat ∧ (c.extractLsb' 0 7).toNat < 0x18) := by decide
  obtain ⟨h1, h2, h3⟩ := code c h hn
  simp only [viewPage, h1]
  rw [if_neg h2, dif_neg h3]

theorem fillPosition_of_attached (s : State) (b : Buffer) (n : Nat)
    (h : s.window.fill = some { buffer := b, position := n }) : s.fillPosition b = byte n := by
  simp [fillPosition, h]

theorem fillPosition_of_not_attached (s : State) (b : Buffer)
    (h : ∀ n, s.window.fill ≠ some { buffer := b, position := n }) : s.fillPosition b = 0 := by
  unfold fillPosition
  split
  · rename_i f hf
    rw [if_neg]
    rintro rfl
    exact h f.position hf
  · rfl

/-- The timer as the two registers of page 1 show it: bits 10 to 8, and bits 7 to 0. -/
theorem timer_bits (n : Nat) :
    ((BitVec.ofNat 11 n).extractLsb' 8 3).setWidth 8 = BitVec.ofNat 8 (n / 256 % 8)
    ∧ (BitVec.ofNat 11 n).extractLsb' 0 8 = BitVec.ofNat 8 n := by
  constructor <;> apply BitVec.eq_of_toNat_eq <;>
    simp only [BitVec.toNat_setWidth, BitVec.extractLsb'_toNat, BitVec.toNat_ofNat, Nat.shiftRight_eq_div_pow] <;> omega

end State
end Sys2Proof.Machine
end

