-- ==== Sys2Proof/Tests/Slice0.lean ====
section
/-! SUPPORT. Tests on fixed values: the WellFormed smoke, the worked examples of the spec, and, for every statement that
has hypotheses, a state and operands that meet them (`test_meets_…`), clause by clause. -/

namespace Sys2Proof.Tests

open Sys2Proof.Machine

set_option maxRecDepth 100000

/-! ### States of the tests -/

/-- The operand registers of a state. -/
def operands (a b c : Byte) (s : State) : State :=
  { s with window := { s.window with opA := a, opB := b, opC := c } }

/-- The Line Engine in a state, its other fields as after reset. -/
def line (l : LineState) (s : State) : State := s.withLine { s.line with state := l }

/-- An entry for node 9 in a state, of no bytes. -/
def item (st : EntryState) (k : Kind) : SendEntry :=
  { SendEntry.free with state := st, kind := some k, dest := 9, retryLimit := 4 }

/-- The one entry, of handle 0, in the post-order list. -/
def queued (e : SendEntry) (s : State) : State :=
  { s.withEntry 0 e with queue := { (s.withEntry 0 e).queue with order := [0] } }

/-- MASTER of entry 0 of a kind, at a phase, with the header that node 5 drives for it to node 9. -/
def master (k : Kind) (p : Phase) (s : State) : State :=
  (queued (item .inFlight k) s).withLine
    { s.line with state := .master 0, phase := p, frames := formHeader 5 (item .inFlight k) false }

/-- A LISTENER of a role at a phase that holds a header from node 5. -/
def hears (r : Role) (p : Phase) (h0 h1 : Byte) (s : State) : State :=
  s.withLine { s.line with
    state := .listener r, phase := p, claimTimer := some 0
    frames := { Frames.cleared with h0 := some h0, h1 := some h1, h2 := some 0, h3 := some 0 } }

/-- An intake of no bytes from node 5. -/
def intake : Intake := { origin := 5, urgent := false, tag := 0, length := 0, cells := [] }

/-- A state with an intake. -/
def taking (s : State) : State := s.withRecv { s.recv with intake := some intake }

/-- A listener record with an answer, a path and a verdict. -/
def decided (a : Option Answer) (p : Path) (v : Option Verdict) (s : State) : State :=
  s.withLine { s.line with record := { answer := a, path := p, verdict := v } }

/-- Offer 0 in a state. -/
def offers (st : OfferState) (withdrawn : Bool) (s : State) : State :=
  s.withOffer 0 { Offer.free with state := st, addressee := 5, withdrawPending := withdrawn }

/-- A record of a length in cells. -/
def record (n : Nat) (cells : List CellNumber) : ReceiveRecord :=
  { arrival := 0, origin := 5, kind := .data, urgent := false, tag := 0, length := n, postNumber := 0, cells := cells }

/-- A Receive List of a record in one cell, its drain cursor at a byte. -/
def holding (n : Nat) (at_ : Nat) (s : State) : State :=
  { (s.withRecv { s.recv with records := [record n [0]], drain := some at_ }) with
    pool := s.pool.setOwner [0] .record }

/-- A staging buffer of a length, entry 0, with the cursor at a byte. -/
def staging (n : Nat) (at_ : Nat) (s : State) : State :=
  { ((s.withEntry 0 { SendEntry.free with state := .staging, length := n, cells := s.pool.lowest n }).withFill
      (some { buffer := .send 0, position := at_ })) with
    pool := s.pool.allocate n (.send 0) }

/-- A report of handle 0. -/
def report : Report :=
  { handle := 0, postNumber := 0, dest := 9, kind := some .data, outcome := some .delivered, lastReason := .none
    attempts := 0 }

/-- A Report List of 8, with entry 0 FINISHED and waiting. -/
def fullReports (s : State) : State :=
  { s.withEntry 0 { item .finished .data with outcome := some .failed } with
    reports := { records := List.replicate 8 report, waiting := [0] } }

/-- Destination 9 SUSPENDED. -/
def suspended (s : State) : State := s.withDest 9 { s.dest 9 with suspended := true }

/-- A command answers a next state with a property. -/
def after (c : Instr) (s : State) (p : State → Bool) : Bool :=
  match exec c s with
  | .next u => p u
  | .fault _ => false
  | .refused _ => false

/-! ### Terms that are no commands -/

theorem test_a_code_that_names_a_command_is_no_unknown_command :
    Instr.wellFormed (.unknownCommand 0x10) = false ∧ Instr.wellFormed (.unknownCommand 0x40) = false
    ∧ Instr.wellFormed (.unknownCommand 0x00) = true ∧ Instr.wellFormed (.unknownCommand 0xFF) = true
    ∧ Instr.wellFormed .post = true := by decide

theorem test_an_ill_formed_term_is_refused :
    exec (.unknownCommand 0x11) .reset = .refused .notAnUnknownCommand := rfl

/-- No word spells a command, and a word leaves the queue as it is. -/
theorem test_no_word_spells_a_command :
    decodeTableWord 8 0x10 = none ∧ State.reset.withFetchWord 8 0x10 = State.reset := by decide

/-! ### Worked examples of the spec -/

/-- TABLES 2-8, 2-10, 12-1 and 12-7. -/
theorem test_check_sums_of_the_worked_examples :
    let sums (fs : List Byte) : Byte × Byte :=
      let l := fs.foldl LineEngine.addFrame LineEngine.reset
      (l.s1, l.s2)
    sums [0x21, 0x94, 0x05, 0x03, 0x10, 0x20, 0x30] = (30, 41)
    ∧ sums [0x21, 0x94, 0x05, 0x03, 0x10, 0x22, 0x30] = (32, 45)
    ∧ sums [2, 0x41, 0x43] = (134, 203)
    ∧ sums [0x51, 0x94, 0, 2, 1, 2] = (234, 216)
    ∧ sums [3, 0x10, 0x20, 0xFF] = (51, 124) := by decide

/-- Section 12.1: the header that node 5 drives. -/
theorem test_header_of_the_first_delivery :
    formHeader 5 { item .inFlight .data with length := 2 } true
      = { h0 := some 0x51, h1 := some 0x94, h2 := some 0, h3 := some 2, l := none, c0 := none, carried := none } := by decide

/-- Sections 12.3 and 12.4: 104 bit periods at node 5, 80 and 144 at node 2. -/
theorem test_backoff_delays_of_the_worked_examples :
    let node (n : Nibble) : State :=
      { State.reset with window := { State.reset.window with settings := { Settings.default with node := n } } }
    (node 5).backoffDelay 1 = 104 ∧ (node 2).backoffDelay 1 = 80 ∧ (node 2).backoffDelay 2 = 144 := by decide

/-- TABLE 9-4. -/
theorem test_offer_selection_of_table_9_4 :
    let posted (a : Nibble) (n : Nat) : Offer := { Offer.free with state := .posted, addressee := a, length := n }
    let s : State := { State.reset with offers :=
      { slots := #v[posted 5 100, posted 7 8, posted 15 16, posted 5 30], order := [2, 0, 3, 1] } }
    s.selectOffer 5 128 = some 0 ∧ s.selectOffer 5 64 = some 3 ∧ s.selectOffer 5 20 = some 2
    ∧ s.selectOffer 5 10 = none ∧ s.selectOffer 7 8 = some 1 ∧ s.selectOffer 2 16 = some 2 := by decide

/-- TABLE 2-3: GOOD and CHECK together read 0x05. -/
theorem test_good_and_check_together_are_no_code :
    Verdict.good.code &&& Verdict.check.code = 0x05 ∧ classVerdict 0x05 = none := by decide

/-- Section 11.9, accesses 1 and 2: OPEN SEND of 20 bytes opens the lowest FREE handle, with one cell. -/
theorem test_open_send_of_twenty_bytes :
    after .openSend (operands 20 0 0 .reset) (fun u => u.window.result == .done && u.window.opC == 0
      && u.pool.freeCount == 63 && u.fillRequest && u.statusByte == 0x20) = true := by decide

/-- Section 11.9, accesses 24 to 27: POST to node 9 with the default retry limit, and to the node's own number. -/
theorem test_post_of_the_worked_example :
    let node4 (s : State) : State :=
      { s with window := { s.window with settings := { Settings.default with node := 4 } } }
    after .post (node4 (operands 0 0x91 0x00 (staging 20 20 .reset))) (fun u => (u.entry 0).state == .ready
      && (u.entry 0).retryLimit == 4 && u.window.fill == none && (u.dest 9).nextTag == 1) = true
    ∧ after .post (node4 (operands 0 0x41 0x00 (staging 20 20 .reset))) (fun u =>
      u.window.result == .badDestination && (u.entry 0).state == .staging && u.window.fill.isSome) = true := by
  decide

/-- Section 12.3: a verdict that is no code is UNCLEAR, and the entry goes into BACKOFF. -/
theorem test_a_lost_verdict_backs_off :
    after (.vCompletes 0xFF 0x00 false) (master .data .v .reset) (fun u => (u.entry 0).state == .backoff
      && (u.entry 0).lastReason == .unclear && u.line.holdOff && u.line.state == .settling) = true := by decide

/-- Section 12.1: the commit at node 9, and the RECEIVED flag. -/
theorem test_a_commit_raises_received :
    after (.vCompletes 0xFF 0xC5 false)
      (decided (some .accept) .new (some .good) (taking (hears .addressed .v 0x51 0x94 .reset)))
      (fun u => u.recv.records.length == 1 && (u.source 5).seen && u.eventFlags == 1 && u.recv.drain == some 0)
      = true := by decide

/-- A write of ENABLES asserts INT over a set flag, and a clearing write of EVENTS releases it. -/
theorem test_int_follows_flags_and_enables :
    after (.enablesWrite 0x40) State.reset.windowError (fun u => u.int
      && after (.eventsWrite 0x40) u (fun v => !v.int)) = true := by decide

/-- DRAIN DATA on an empty Receive List is a window error. -/
theorem test_drain_data_on_an_empty_list :
    after .drainData .reset (fun u => u.events.windowError && u.busData == 0 && u.hostRead 1 == 0x40) = true := by
  decide

/-- Section 11.9, accesses 1 and 2: 20 written to OPERAND A at address 4, and the code 0x10 to COMMAND at address 3. -/
theorem test_the_host_writes_spell_open_send :
    hostWrite 4 20 false = .registerWrite .operandA 20 ∧ hostWrite 3 0x10 false = .openSend
    ∧ hostWrite 3 0x02 true = .lineOn true ∧ hostWrite 3 0x41 false = .unknownCommand 0x41
    ∧ hostWrite 15 1 false = .registerWrite (.view 5) 1 := by decide

/-- A MASTER clocks the line, a listener does not (R2). -/
theorem test_a_master_drives_lck :
    (master .data .a .reset).drivesLck = true ∧ (hears .addressed .a 0x51 0x90 .reset).drivesLck = false := by decide

/-! ### What the hypotheses of the statements ask for, met -/

theorem test_meets_idle_step :
    let settling (n : Nat) : State := State.reset.withLine { State.reset.line with
      state := .settling, quietTimer := some n }
    let joining (n : Nat) : State := State.reset.withLine { State.reset.line with
      state := .joining, claimTimer := some n }
    let held (n : Nat) : State := State.reset.withLine { State.reset.line with
      state := .quiet, holdOff := true, longQuietTimer := some n }
    State.reset.pending = [] ∧ (settling 15).due = [] ∧ (settling 16).due = [.quiet] ∧ (held 47).due = []
    ∧ (held 48).due = [.longQuiet] ∧ (joining 1279).due = [] ∧ (joining 1280).due = [.claimLimit]
    ∧ (queued (item .backoff .data) .reset).due = [.backoff 0]
    ∧ (queued (item .backoff .data) (settling 16)).due.length = 2 := by decide

/-- The four tests of CONFIGURE, and the ends of the seven ranges. -/
theorem test_meets_configure :
    let c (a b : Byte) : ResultCode := (operands a b 0 .reset).configureResult
    (line .quiet .reset).line.state ≠ .off ∧ State.reset.line.state = .off
    ∧ (c 7 0 = .badValue ∧ c 0 15 = .badValue ∧ c 1 1 = .badValue ∧ c 2 7 = .badValue ∧ c 2 65 = .badValue
      ∧ c 3 0 = .badValue ∧ c 3 16 = .badValue ∧ c 4 0 = .badValue ∧ c 4 9 = .badValue ∧ c 5 33 = .badValue
      ∧ c 6 2 = .badValue)
    ∧ (c 0 14 = .done ∧ c 1 2 = .done ∧ c 2 8 = .done ∧ c 2 64 = .done ∧ c 3 15 = .done ∧ c 4 8 = .done
      ∧ c 5 32 = .done ∧ c 6 1 = .done)
    ∧ (operands 0 3 0 (offers .taken false .reset)).configureResult = .badState := by decide

theorem test_meets_line_on_and_line_off :
    State.reset.line = .reset ∧ State.reset.line.state = .off
    ∧ (line .joining .reset).line.state = .joining ∧ (line .settling .reset).line.state = .settling
    ∧ (line .quiet .reset).line.state = .quiet ∧ (line .stuck .reset).line.state = .stuck
    ∧ (master .data .h0 .reset).line.state = .master 0
    ∧ ((master .data .h0 .reset).entry 0).cancelPending = false
    ∧ ((queued { item .inFlight .data with cancelPending := true } (line (.master 0) .reset)).entry 0).cancelPending
      = true
    ∧ (hears .gathering .a 0x53 0xF0 .reset).recv.intake = none
    ∧ (taking (hears .gathering .a 0x53 0xF0 .reset)).recv.intake = some intake
    ∧ ((offers .serving false (hears (.serving 0) .l 0x54 0x90 .reset)).offerAt 0).withdrawPending = false
    ∧ ((offers .serving true (hears (.serving 0) .l 0x54 0x90 .reset)).offerAt 0).withdrawPending = true := by
  decide

/-- Free cells left: a pool with none but nine cells free. -/
def nineFree (s : State) : State :=
  { s with pool := s.pool.setOwner (s.pool.freeCells.take 55) .record }

/-- Every send entry and every offer occupied. -/
def noSlots (s : State) : State :=
  { s with
    queue := { s.queue with entries := Vector.replicate 8 (item .finished .data) }
    offers := { s.offers with slots := Vector.replicate 4 { Offer.free with state := .taken } } }

theorem test_meets_open_send :
    let s : State := operands 128 0 0 .reset
    let staged (x : State) : Prop := (∃ h, (x.entry h).state = .staging) ∨ ∃ i, (x.offerAt i).state = .staging
    staged (staging 1 0 .reset) ∧ ¬ staged (operands 129 0 0 .reset) ∧ ¬ staged (operands 128 0 0 (noSlots .reset))
    ∧ (¬ ∃ h, ((operands 128 0 0 (noSlots .reset)).entry h).state = .free)
    ∧ (¬ staged (operands 33 0 0 (nineFree .reset)) ∧ (nineFree .reset).pool.freeCount < 8 + cellsFor 33
      ∧ 8 + cellsFor 32 ≤ (nineFree .reset).pool.freeCount)
    ∧ (∀ g, (s.entry g).state ≠ .staging) ∧ (∀ i, (s.offerAt i).state ≠ .staging) ∧ s.window.opA.toNat ≤ 128
    ∧ (s.entry 0).state = .free ∧ (∀ g : Handle, g < 0 → (s.entry g).state ≠ .free)
    ∧ s.window.settings.reserve + cellsFor s.window.opA.toNat ≤ s.pool.freeCount := by decide

/-- Every test of POST, in order, and an entry that passes all of them. -/
theorem test_meets_post :
    let r (n : Nat) (a b c : Byte) : ResultCode :=
      match (operands a b c (staging n n .reset)).postTests with
      | .error e => e
      | .ok _ => .done
    r 0 8 0x91 0 = .badHandle ∧ r 0 7 0x91 0 = .badHandle ∧ r 0 0 0x90 0 = .badKind ∧ r 0 0 0x95 0 = .badKind
    ∧ r 0 0 0x93 0 = .badDestination ∧ r 0 0 0xF1 0 = .badDestination ∧ r 0 0 0x01 0 = .badDestination
    ∧ r 1 0 0x92 0 = .badKind ∧ r 0 0 0x94 0 = .badKind ∧ r 0 0 0x91 9 = .badValue
    ∧ r 0 0 0x91 8 = .done ∧ r 0 0 0x92 0x80 = .done ∧ r 0 0 0xF3 0 = .done ∧ r 128 0 0x94 0 = .done := by decide

/-- A POST of a DATA whose every hypothesis holds together. -/
theorem test_meets_post_done :
    let s : State := operands 0 0x91 8 (staging 0 0 .reset)
    s.window.opA.toNat = (0 : Handle).val ∧ (s.entry 0).state = .staging
    ∧ Kind.data.code = s.window.opB.extractLsb' 0 4 ∧ (Kind.data = .broadcast ↔ s.window.opB.extractLsb' 4 4 = 15)
    ∧ s.window.opB.extractLsb' 4 4 ≠ s.window.settings.node ∧ (Kind.data = .probe → (s.entry 0).length = 0)
    ∧ (Kind.data = .collect → (s.entry 0).length ≠ 0) ∧ (s.window.opC.extractLsb' 0 4).toNat ≤ 8 := by decide

theorem test_meets_cancel (st : EntryState) :
    let s : State := operands 0 0 0 (queued (item st .data) .reset)
    s.window.opA.toNat = (0 : Handle).val ∧ (s.entry 0).state = st
    ∧ 8 ≤ (operands 8 0 0 .reset).window.opA.toNat := by
  cases st <;> decide

theorem test_meets_unknown_command :
    namesCommand 0x00 = false ∧ namesCommand 0x41 = false ∧ namesCommand 0xFF = false := by decide

theorem test_meets_resume_and_discard :
    let s : State := operands 9 0 0 (suspended (queued (item .held .data) .reset))
    (15 < (operands 16 0 0 .reset).window.opA.toNat)
    ∧ (operands 15 0 0 .reset).window.opA.toNat = (15 : Nibble).toNat ∧ (State.reset.dest 15).suspended = false
    ∧ s.window.opA.toNat = (9 : Nibble).toNat ∧ (s.dest 9).suspended = true ∧ (s.entry 0).state = .held
    ∧ (s.entry 0).dest = 9 ∧ s.QueueKept := by
  refine ⟨by decide, by decide, by decide, by decide, by decide, by decide, by decide, ?_⟩
  constructor <;> decide

theorem test_meets_selection_and_claim :
    let s : State := line .quiet (queued (item .ready .data) .reset)
    let u : State := line .quiet (queued { item .ready .data with urgent := true } .reset)
    s.selection = some 0 ∧ (s.entry 0).urgent = false ∧ u.selection = some 0 ∧ (u.entry 0).urgent = true
    ∧ State.reset.selection = none ∧ s.line.state = .quiet ∧ s.line.holdOff = false ∧ s.queue.halted = false
    ∧ (s.entry 0).kind = some .data ∧ State.reset.line.state ≠ .quiet := by decide

theorem test_meets_finish_and_attempts :
    let e (n : Nat) (c : Bool) : SendEntry := { item .inFlight .data with attempts := n, cancelPending := c }
    let s (n : Nat) (c : Bool) : State := queued (e n c) (line (.master 0) .reset)
    (State.reset.reports.records.length < 8 ∧ 8 ≤ (fullReports .reset).reports.records.length
    ∧ ((s 0 false).entry 0).kind = some .data ∧ ((queued (item .inFlight .probe) .reset).entry 0).kind ≠ some .data
    ∧ ((s 0 true).entry 0).cancelPending = true
    ∧ ((s 3 false).entry 0).attempts + 1 = ((s 3 false).entry 0).retryLimit
    ∧ ((s 2 false).entry 0).attempts + 1 ≠ ((s 2 false).entry 0).retryLimit
    ∧ ((s 2 false).entry 0).state = .inFlight ∧ ((s 2 false).entry 0).cancelPending = false)
    ∧ (s 2 false).SuspensionKept ∧ (s 2 false).SettingsKept := by
  refine ⟨by decide, ?_, ?_⟩ <;> constructor <;> decide

theorem test_meets_take_and_take_report :
    (State.reset.recv.records = [] ∧ (holding 1 0 .reset).recv.records = [record 1 [0]]
    ∧ State.reset.reports.records = [] ∧ (fullReports .reset).reports.records = report :: List.replicate 7 report
    ∧ (fullReports .reset).reports.waiting = [0] ∧ State.reset.reports.waiting = [])
    ∧ (fullReports .reset).QueueKept := by
  refine ⟨by decide, ?_⟩
  constructor <;> decide

theorem test_meets_open_offer :
    let r (a b : Byte) (s : State) : ResultCode :=
      match (operands a b 0 s).openOfferTests with
      | .error e => e
      | .ok _ => .done
    r 0 5 (staging 1 0 .reset) = .badState ∧ r 129 5 .reset = .badLength ∧ r 128 16 .reset = .badDestination
    ∧ r 128 0 .reset = .badDestination ∧ r 128 15 (noSlots .reset) = .noSlot
    ∧ r 33 15 (nineFree .reset) = .noCells ∧ r 32 15 (nineFree .reset) = .done ∧ r 0 1 .reset = .done := by decide

theorem test_meets_offer_commands (st : OfferState) :
    let s : State := operands 0 0 0 (offers st false .reset)
    s.window.opA.toNat = (0 : OfferIndex).val ∧ (s.offerAt 0).state = st ∧ (0 : OfferIndex) ∉ s.offers.order
    ∧ 3 < (operands 4 0 0 .reset).window.opA.toNat := by
  cases st <;> decide

theorem test_meets_refused_command :
    ([.configure, .openSend, .post, .cancel, .resume, .discard, .take, .takeReport, .openOffer, .postOffer, .withdraw,
        .clearOffer] : List Instr).all
      (fun c => after c (operands 0xFF 0xFF 0xFF .reset) (fun t => t.window.result != .done)) = true := by decide

/-- FILL DATA: detached, below the length at both ends, at the length, and a buffer of length 0. -/
theorem test_meets_fill_data :
    State.reset.window.fill = none ∧ (staging 33 0 .reset).window.fill = some { buffer := .send 0, position := 0 }
    ∧ (staging 33 0 .reset).bufferLength (.send 0) = 33 ∧ (staging 33 32 .reset).window.fill
      = some { buffer := .send 0, position := 32 }
    ∧ ((staging 33 32 .reset).bufferCells (.send 0))[32 / 32]? = some 1
    ∧ (staging 33 32 .reset).pool.mem.wf = true ∧ (staging 0 0 .reset).bufferLength (.send 0) = 0
    ∧ (staging 33 33 .reset).window.fill = some { buffer := .send 0, position := 33 } := by decide

/-- DRAIN DATA: at the last byte, at the length, a head of length 0, and an empty list. -/
theorem test_meets_drain_data :
    (holding 2 1 .reset).recv.drain = some 1 ∧ (record 2 [0]).cells[1 / 32]? = some 0
    ∧ (holding 2 2 .reset).recv.drain = some (record 2 [0]).length
    ∧ (holding 0 0 .reset).recv.drain = some (record 0 [0]).length
    ∧ State.reset.recv.records = [] ∧ State.reset.recv.drain = none
    ∧ (0x40 : Byte).getLsbD 6 = true ∧ (0x7F : BitVec 7).getLsbD 6 = true := by decide

/-- The views: an empty and a filled list, a FREE, a STAGING, an unfinished and a FINISHED entry, and the codes at the ends
of the ranges that name no view. -/
theorem test_meets_host_reads :
    State.reset.recv.records = [] ∧ (holding 1 0 .reset).recv.records = [record 1 [0]]
    ∧ State.reset.reports.records = [] ∧ report.kind = some .data
    ∧ (item .ready .data).state.unfinished = true ∧ (item .finished .data).kind = some .data
    ∧ SendEntry.free.state = .free ∧ ((staging 1 0 .reset).entry 0).state = .staging
    ∧ ((offers .posted false .reset).offerAt 0).state ≠ .free
    ∧ ([0x02, 0x0F, 0x18, 0x1F, 0x3F, 0x44, 0x4F, 0x53, 0x7F] : List Byte).all (fun c =>
        (State.reset.viewPage (c.extractLsb' 0 7) (c.getLsbD 7)).isEmpty) = true := by decide

/-- Page 1 of a SEND ENTRY view in BACKOFF, FINISHED and STAGING, an OFFER view in the order and FREE, and the codes at the
ends of the ranges of page 1 that show nothing. -/
theorem test_meets_the_other_pages :
    let back : State := queued { item .backoff .data with backoff := 0x104, lastReason := .busy } .reset
    let done : State := queued { item .finished .data with outcome := some .failed, lastReason := .check } .reset
    let posted : State :=
      { offers .posted false .reset with offers := { (offers .posted false .reset).offers with order := [1, 0] } }
    back.viewSendEntryTimer 0 = [0x20, 0x01, 0x04, 0] ∧ done.viewSendEntryTimer 0 = [0x47, 0, 0, 0]
    ∧ (staging 33 32 .reset).viewSendEntryTimer 0 = [0, 0, 0, 32] ∧ posted.viewOffer 0 = [0x20, 0x52, 0, 0, 0]
    ∧ posted.offers.order = [1] ++ 0 :: [] ∧ (2 : OfferIndex) ∉ posted.offers.order
    ∧ (State.reset.offerAt 0).state = .free ∧ State.reset.viewOffer 0 = [0, 0, 0, 0, 0]
    ∧ ([0x81, 0x8F, 0x98, 0xA0, 0xC0, 0xD0, 0xFF] : List Byte).all (fun c =>
        (State.reset.viewPage (c.extractLsb' 0 7) (c.getLsbD 7)).isEmpty) = true := by decide

/-- The request outputs: asserted below the length, released at it. -/
theorem test_meets_request_outputs :
    (staging 33 32 .reset).fillRequest = true ∧ (staging 33 33 .reset).fillRequest = false
    ∧ (holding 2 1 .reset).drainRequest = true ∧ (holding 2 2 .reset).drainRequest = false := by decide

theorem test_meets_line_events :
    let cleared (s : State) : Prop := s.line.holdOff = false ∧ s.line.longQuietTimer = none
    (line .settling .reset).line.state = .settling ∧ (line .quiet .reset).line.state = .quiet
    ∧ (line .joining .reset).line.state = .joining ∧ (line .stuck .reset).line.state = .stuck
    ∧ cleared (line .joining .reset)
    ∧ (decided (some .accept) .new none (hears .addressed .c0 0x51 0x90 .reset)).line.record.answer = some .accept
    ∧ (decided (some .accept) .new none (hears .addressed .c0 0x51 0x90 .reset)).line.phase ≠ .complete
    ∧ (decided (some .busy) .none none (hears .addressed .a 0x51 0x90 .reset)).line.record.answer ≠ some .accept
    ∧ (taking (hears .gathering .c0 0x53 0xF0 .reset)).recv.intake = some intake
    ∧ (hears (.serving 0) .l 0x54 0x90 .reset).line.state = .listener (.serving 0)
    ∧ ((queued (item .backoff .data) .reset).entry 0).state = .backoff
    ∧ ((queued (item .ready .data) .reset).entry 0).state ≠ .backoff
    ∧ (State.reset.withLine { State.reset.line with longQuietTimer := some 0 }).line.longQuietTimer = some 0 := by
  decide

theorem test_meets_differing_readback :
    (master .data .h0 .reset).line.state = .master 0 ∧ (master .data .h0 .reset).line.phase = .h0
    ∧ (master .data .h1 .reset).line.phase ≠ .h0
    ∧ ([.h1, .h2, .h3, .p 1, .c0, .c1] : List Phase).all
        (fun p => ((master .data p .reset).masterFrame 0).isSome) = true
    ∧ ((decided none .none (some .good) (master .collect .v .reset)).masterFrame 0).isSome = true := by decide

/-- R8: after a conflict in H1 the frame is held as the line carried it, in a payload frame and in C0 too, and a second
completion changes nothing; the sums stand. -/
theorem test_the_frame_of_a_conflict_is_held :
    let s (p : Phase) : State := hears .bystander p 0x51 0x90 .reset
    after (.conflict true) (master .data .h1 .reset) (fun t => t.line.phase == .h1
      && after (.h1Completes 0x80) t (fun u => u.line.frames.h1 == some 0x80 && u.line.phase == .complete
        && u.line.s1 == t.line.s1 && after (.h2Completes 1) u (· == u))) = true
    ∧ after (.h1Completes 0x80) (master .data .h1 .reset) (fun u => u.line.frames.h1 == some 0x80) = true
    ∧ after (.payloadFrameCompletes 7 0) (s (.p 1)) (fun u => u.line.frames.carried == some 7) = true
    ∧ after (.c0Completes 7 0) (s .c0) (fun u => u.line.frames.c0 == some 7) = true
    ∧ after (.c1Completes 7 0 true) (s .c1) (fun u => u.line.frames.carried == some 7) = true := by decide

/-- R34: a Pk that differs at a server is added as driven, and the phase is Complete. -/
theorem test_a_server_adds_the_frame_that_differs :
    let s : State := { offers .serving false (hears (.serving 0) .l 0x54 0x90 .reset) with
      offers := { slots := State.reset.offers.slots.set 0 { Offer.free with state := .serving, length := 3 }, order := [0] } }
    after (.lCompletes 1 true) s (fun u => u.line.s1 == 3 && u.line.s2 == 3 && u.line.phase == .complete
      && u.line.state == .listener .bystander && (u.offerAt 0).state == .posted) = true := by decide

/-- What each end drives, one state for each frame of the statement. -/
theorem test_meets_frames_driven :
    (master .data .h0 .reset).lmdFrame = 0x51 ∧ (master .data .h1 .reset).lmdFrame = 0x90
    ∧ (master .data .a .reset).lmdFrame = 0xFF ∧ (master .data .v .reset).lmdFrame = 0xFF
    ∧ (master .collect .c0 .reset).lmdFrame = 0xFF
    ∧ (decided none .none (some .check) (master .collect .v .reset)).lmdFrame = 0x35
    ∧ (decided (some .busy) .none none (hears .addressed .a 0x51 0x90 .reset)).lrdFrame = 0x59
    ∧ (decided (some .accept) .new (some .good) (hears .addressed .v 0x51 0x90 .reset)).lrdFrame = 0xC5
    ∧ (hears (.serving 0) .a 0x54 0x90 .reset).lrdFrame = 0xA6
    ∧ (hears .bystander .a 0x51 0x90 .reset).lrdFrame = 0xFF := by decide

theorem test_meets_header_frames :
    (master .data .h0 .reset).line.frames.h0 = some 0x51 ∧ (master .data .h1 .reset).line.frames.h1 = some 0x90
    ∧ (master .data .h2 .reset).line.frames.h2 = some 0 ∧ (master .data .h3 .reset).line.frames.h3 = some 0
    ∧ (hears .undecided .h1 0x51 0x90 .reset).line.state = .listener .undecided
    ∧ (hears .undecided .h1 0x51 0x90 .reset).line.frames.h0 = some 0x51
    ∧ (hears .addressed .h2 0x51 0x90 .reset).line.phase = .h2
    ∧ (hears .gathering .h2 0x53 0xF0 .reset).line.state = .listener .gathering
    ∧ (hears .bystander .complete 0x51 0x90 .reset).line.state = .listener .bystander
    ∧ (∀ h, (line .quiet .reset).line.state ≠ .master h) ∧ (∀ r, (line .quiet .reset).line.state ≠ .listener r) := by
  refine ⟨by decide, by decide, by decide, by decide, by decide, by decide, by decide, by decide, by decide, ?_, ?_⟩ <;>
    intro _ h <;> cases h

/-- Admission at node 0: every clause met by a header, a length and a state. -/
theorem test_meets_admission :
    let s (h0 h1 : Byte) : State := hears .addressed .h3 h0 h1 .reset
    let hold (x : State) : State :=
      { x with window := { x.window with settings := { x.window.settings with intakeHold := true } } }
    let seen (x : State) : State := x.noteSource 5 0
    let full (x : State) : State := { x with recv := { x.recv with records := List.replicate 10 (record 0 []) } }
    let r (x : State) (f : Byte) : Option (Answer × Path) :=
      match exec (.h3Completes f) x with
      | .next u => u.line.record.answer.map (fun a => (a, u.line.record.path))
      | _ => none
    r (s 0x55 0x00) 0 = some (.malformed, .none) ∧ r (s 0x51 0x01) 0 = some (.malformed, .none)
    ∧ r (s 0xF1 0x00) 0 = some (.malformed, .none) ∧ r (s 0x01 0x00) 0 = some (.malformed, .none)
    ∧ r (s 0x53 0x00) 0 = some (.malformed, .none) ∧ r (s 0x51 0x00) 129 = some (.malformed, .none)
    ∧ r (s 0x52 0x00) 1 = some (.malformed, .none) ∧ r (s 0x54 0x00) 0 = some (.malformed, .none)
    ∧ r (hold (s 0x51 0x00)) 0 = some (.busy, .none) ∧ r (hold (s 0x54 0x00)) 1 = some (.noOffer, .none)
    ∧ r (s 0x52 0x00) 0 = some (.accept, .probe) ∧ r (seen (s 0x51 0x00)) 128 = some (.accept, .duplicate)
    ∧ r (seen (s 0x51 0x04)) 128 = some (.accept, .new) ∧ r (s 0x51 0x00) 0 = some (.accept, .new)
    ∧ r (full (s 0x51 0x00)) 0 = some (.busy, .none) ∧ r (full (s 0x51 0x08)) 0 = some (.accept, .new) := by decide

/-- A COLLECT from node 5 finds an offer to it, or none. -/
theorem test_meets_collect :
    let s : State := hears .addressed .h3 0x54 0x00 .reset
    let o : State := { offers .posted false s with offers := { (offers .posted false s).offers with order := [0] } }
    s.selectOffer 5 1 = none ∧ o.selectOffer 5 1 = some 0 ∧ o.selectOffer 6 1 = none
    ∧ s.line.frames.h0 = some 0x54 ∧ s.line.frames.h1 = some 0x00
    ∧ after (.h3Completes 1) o (fun u => u.line.state == .listener (.serving 0)) = true := by decide

theorem test_meets_gathering :
    let s (h1 : Byte) : State := hears .gathering .h3 0x53 h1 .reset
    let full (x : State) : State := { x with recv := { x.recv with records := List.replicate 10 (record 0 []) } }
    (s 0xF0).recv.intake = none ∧ (s 0xF0).line.frames.h2 = some 0
    ∧ after (.h3Completes 129) (s 0xF0) (fun u => u.line.state == .listener .bystander && !u.events.broadcastMissed)
      = true
    ∧ after (.h3Completes 0) (full (s 0xF0)) (fun u => u.events.broadcastMissed) = true
    ∧ after (.h3Completes 128) (s 0xF8) (fun u => u.recv.intake.isSome) = true := by decide

theorem test_meets_answers :
    let at_ (s : State) : Prop := s.line.phase = .a
    (∀ k, at_ (master k .a .reset) ∧ (master k .a .reset).line.kind = some k)
    ∧ at_ (decided (some .accept) .new none (hears .addressed .a 0x51 0x90 .reset))
    ∧ (hears .addressed .a 0x51 0x90 .reset).line.kind = some .data
    ∧ (hears .gathering .a 0x53 0xF0 .reset).line.kind = some .broadcast
    ∧ (taking (hears .addressed .a 0x51 0x90 .reset)).recv.intake = some intake
    ∧ at_ (hears .gathering .a 0x53 0xF0 .reset) ∧ at_ (hears (.serving 0) .a 0x54 0x90 .reset) := by
  refine ⟨fun k => ?_, by decide⟩
  cases k <;> decide

theorem test_meets_offer_length :
    let s : State := offers .serving false (hears (.serving 0) .l 0x54 0x90 .reset)
    s.line.kind = some .collect ∧ s.line.phase = .l ∧ (master .collect .l .reset).line.kind = some .collect
    ∧ (0 : Byte).toNat ≤ ((master .collect .l .reset).entry 0).length
    ∧ ((master .collect .l .reset).entry 0).length < (1 : Byte).toNat
    ∧ (0 : Byte) = BitVec.ofNat 8 (s.offerAt 0).length := by decide

theorem test_meets_payload_and_check_frames :
    (master .collect (.p 1) .reset).line.kind = some .collect ∧ (master .data (.p 1) .reset).line.phase = .p 1
    ∧ (hears .addressed (.p 1) 0x51 0x90 .reset).line.kind = some .data
    ∧ (hears .gathering (.p 1) 0x53 0xF0 .reset).line.kind = some .broadcast
    ∧ (hears (.serving 0) (.p 1) 0x54 0x90 .reset).line.kind = some .collect
    ∧ (0 : Byte) = (master .data (.p 1) .reset).pool.readByte ((master .data (.p 1) .reset).entry 0).cells 0
    ∧ (decided (some .accept) .new none (hears .addressed (.p 1) 0x51 0x90 .reset)).line.record.path = .new
    ∧ (decided (some .accept) .duplicate none (hears .addressed (.p 1) 0x51 0x90 .reset)).line.record.path ≠ .new
    ∧ (0 : Byte) = (master .data .c0 .reset).line.s2 ∧ (0 : Byte) = (master .broadcast .c1 .reset).line.s1
    ∧ (master .broadcast .c1 .reset).line.kind = some .broadcast
    ∧ ((master .collect .c1 .reset).withLine { (master .collect .c1 .reset).line with
        frames := { (master .collect .c1 .reset).line.frames with c0 := some 0 } }).line.frames.c0
      = some (master .collect .c1 .reset).line.s2
    ∧ (hears .addressed .c1 0x51 0x90 .reset).line.frames.c0 ≠ some (hears .addressed .c1 0x51 0x90 .reset).line.s2
    ∧ (hears (.serving 0) .c1 0x54 0x90 .reset).line.phase = .c1 := by decide

theorem test_meets_verdicts :
    let t (p : Path) (v : Verdict) : State := decided (some .accept) p (some v) (hears .addressed .v 0x51 0x90 .reset)
    (master .data .v .reset).line.kind ≠ some .collect ∧ (master .collect .v .reset).line.kind = some .collect
    ∧ (decided none .none (some .good) (master .collect .v .reset)).line.record.verdict = some .good
    ∧ (decided none .none (some .check) (master .collect .v .reset)).line.record.verdict = some .check
    ∧ (t .new .good).line.record.path = .new ∧ (taking (t .new .good)).recv.intake = some intake
    ∧ (t .duplicate .goodDuplicate).line.record.verdict = some .goodDuplicate
    ∧ (t .probe .good).line.record.path = .probe ∧ (t .new .check).line.record.verdict = some .check
    ∧ (hi ((t .new .good).line.frames.h0.getD 0)).toNat < 15
    ∧ (hears (.serving 0) .v 0x54 0x90 .reset).line.state = .listener (.serving 0) := by decide

theorem test_meets_chain_bytes :
    ([4, 5] : List CellNumber)[0 / 32]? = some 4 ∧ ([4, 5] : List CellNumber)[31 / 32]? = some 4
    ∧ ([4, 5] : List CellNumber)[32 / 32]? = some 5 ∧ ([4, 5] : List CellNumber)[63 / 32]? = some 5
    ∧ Memory.wf [(0, 1)] = true ∧ Memory.wf [(2047, 1)] = true ∧ Memory.wf [(2048, 1)] = false
    ∧ Memory.wf [(3, 0)] = false ∧ Memory.wf [(3, 1), (3, 2)] = false := by decide

/-- Each command that the frame statement names does change what it may change. -/
theorem test_meets_what_commands_change :
    after (.fillData 1) (staging 1 0 .reset) (fun t => t.pool.mem != (staging 1 0 .reset).pool.mem) = true
    ∧ after .configure (operands 0 3 0 .reset) (fun t => t.window.settings.node == 3) = true
    ∧ after (.registerWrite .operandA 1) .reset (fun t => t.window.opA == 1) = true
    ∧ after (.enablesWrite 1) .reset (fun t => t.events.enables == 1) = true
    ∧ after .post (operands 0 0x91 0 (staging 0 0 .reset)) (fun t => t.queue.postCounter == 1) = true
    ∧ after .halt .reset (fun t => t.queue.halted) = true := by decide

/-! ### A state that keeps every invariant -/

/-- QUIET, with a READY DATA of 40 bytes in cells 0 and 1, a staging buffer of one byte in cell 2, a POSTED offer of no
bytes, and a record in cell 3. -/
def kept : State :=
  { State.reset with
    line := { LineEngine.reset with state := .quiet }
    pool := ((Pool.reset.setOwner [0, 1] (.send 0)).setOwner [2] (.send 1)).setOwner [3] .record
    queue := { SendQueue.reset with
      entries := (SendQueue.reset.entries.set 0 { item .ready .data with length := 40, cells := [0, 1] }).set 1
        { SendEntry.free with state := .staging, length := 1, cells := [2] }
      order := [0] }
    recv := { ReceiveList.reset with records := [record 5 [3]], drain := some 5 }
    offers := { slots := OfferTable.reset.slots.set 0 { Offer.free with state := .posted, addressee := 5 }, order := [0] }
    window := { HostWindow.reset with fill := some { buffer := .send 1, position := 1 } } }

theorem test_meets_memory_settings_and_engine :
    kept.pool.mem.wf = true ∧ kept.SettingsKept ∧ kept.EngineKept := by
  refine ⟨by decide, ?_, ?_⟩ <;> constructor <;> decide

theorem test_meets_queue_and_offers : kept.QueueKept ∧ kept.OffersKept := by
  refine ⟨?_, ?_⟩ <;> constructor <;> decide

theorem test_meets_receive_list : kept.ReceiveKept := by
  constructor
  · decide
  · decide
  · decide
  · intro h; exact absurd h (by decide)
  · decide
  · intro n r rest hn hr
    simp only [kept, Option.some.injEq, List.cons.injEq] at hn hr
    obtain ⟨rfl, -⟩ := hr
    subst hn; decide

theorem test_meets_staging : kept.StagingKept := by
  constructor
  · intro h; fin_cases h <;> simp [kept, State.entry, item, SendEntry.free, SendQueue.reset]
  · intro i; fin_cases i <;> simp [kept, State.offerAt, Offer.free, OfferTable.reset]
  · intro f hf; simp only [kept, Option.some.injEq] at hf; subst hf; decide

theorem test_meets_suspension_and_posted : kept.SuspensionKept ∧ kept.PostedKept := by
  refine ⟨⟨by decide, by decide, by decide⟩, by decide, ?_⟩
  intro h hu
  have h0 : h = 0 := by revert hu; revert h; decide
  subst h0
  exact ⟨.data, by decide⟩

theorem test_meets_pool : kept.PoolKept := by
  constructor
  · decide
  · decide
  · intro c; simp only [kept, ReceiveList.reset, reduceCtorEq, false_and, exists_false, false_iff]; revert c; decide
  · intro c; simp only [kept, List.mem_singleton, exists_eq_left]; revert c; decide
  · decide
  · unfold State.chainFits; decide
  · decide
  · unfold State.chainFits; decide
  · intro m hm; simp [kept, ReceiveList.reset] at hm
  · unfold State.chainFits; decide
  · intro h hl; exact absurd hl (by revert h; decide)

/-- The header of the READY entry. -/
theorem test_meets_header_of_a_claim :
    (kept.entry 0).state.unfinished = true ∧ (kept.entry 0).kind ≠ some .broadcast
    ∧ ({ LineEngine.reset with frames := formHeader kept.window.settings.node (kept.entry 0) true } : LineEngine).frames
      = formHeader kept.window.settings.node (kept.entry 0) true
    ∧ (7 : Nibble) ≠ kept.window.settings.node := by decide

/-- A staging buffer of length 0, with its cursor at the length. -/
theorem test_meets_empty_staging_buffer :
    (staging 0 0 .reset).window.fill = some ⟨.send 0, 0⟩ ∧ (staging 0 0 .reset).bufferLength (.send 0) = 0
    ∧ (staging 0 0 .reset).StagingKept := by
  refine ⟨rfl, rfl, ?_⟩
  constructor
  · intro h; fin_cases h <;> simp [staging, State.entry, State.withFill, State.withEntry, SendEntry.free, State.reset,
      SendQueue.reset]
  · intro i; fin_cases i <;> simp [staging, State.offerAt, State.withFill, State.withEntry, Offer.free, State.reset,
      OfferTable.reset]
  · intro f hf; simp only [staging, State.withFill, Option.some.injEq] at hf; subst hf; decide

/-- The premise on the step: a state that keeps the invariants has a next state. -/
theorem test_meets_step :
    (match step { kept with pending := [.take] } with | .next t => t.recv.records.isEmpty | _ => false) = true := by
  decide

end Sys2Proof.Tests
end

/-! SUPPORT. What a release does to the free count, what TAKE does to an empty and to a filled Receive List, and the
statement about TAKE. -/

namespace Sys2Proof.Machine

/-! ### A release and the free count -/

namespace Pool

/-- A cell is free after a release exactly if it was released or was free before. -/
theorem mem_freeCells_release (p : Pool) (cells : List CellNumber) (c : CellNumber) :
    c ∈ (p.release cells).freeCells ↔ c ∈ cells ∨ c ∈ p.freeCells := by
  rw [mem_freeCells, mem_freeCells, owners_release]
  by_cases hc : c ∈ cells <;> simp [hc]

/-- The released cells and the free cells of before make up the free cells of after, when the chain names each of its
cells once and none of them was free. -/
theorem freeCells_release_perm (p : Pool) (cells : List CellNumber) (hn : cells.Nodup)
    (hf : ∀ c ∈ cells, p.owners[c] ≠ .free) : (p.release cells).freeCells.Perm (cells ++ p.freeCells) := by
  have apart : cells.Disjoint p.freeCells := fun c hc hfree => hf c hc ((mem_freeCells p c).mp hfree)
  refine (List.perm_ext_iff_of_nodup (freeCells_nodup _) (hn.append (freeCells_nodup p) apart)).mpr fun c => ?_
  rw [mem_freeCells_release, List.mem_append]

/-- The free count rises by the length of a chain that is released (section 3.5). -/
theorem freeCount_release (p : Pool) (cells : List CellNumber) (hn : cells.Nodup)
    (hf : ∀ c ∈ cells, p.owners[c] ≠ .free) : (p.release cells).freeCount = p.freeCount + cells.length := by
  have hlen := (freeCells_release_perm p cells hn hf).length_eq
  rw [List.length_append] at hlen
  unfold freeCount
  omega

end Pool

/-! ### TAKE -/

namespace State

@[simp] theorem takeHead_pool (s : State) (head : ReceiveRecord) (rest : List ReceiveRecord) :
    (s.takeHead head rest).pool = s.pool.release head.cells := rfl

@[simp] theorem takeHead_recv_records (s : State) (head : ReceiveRecord) (rest : List ReceiveRecord) :
    (s.takeHead head rest).recv.records = rest := rfl

/-- No cell of a committed record's chain is free (R40). -/
theorem PoolKept.record_cell_not_free {s : State} (hs : s.PoolKept) {r : ReceiveRecord} (hr : r ∈ s.recv.records)
    {c : CellNumber} (hc : c ∈ r.cells) : s.pool.owners[c] ≠ .free := by
  have owned : s.pool.owners[c] = .record := (hs.record c).mp ⟨r, hr, hc⟩
  simp [owned]

/-- The release of a committed record's chain raises the free count by its length (R50). -/
theorem PoolKept.freeCount_release_record {s : State} (hs : s.PoolKept) {r : ReceiveRecord}
    (hr : r ∈ s.recv.records) : (s.pool.release r.cells).freeCount = s.pool.freeCount + r.cells.length :=
  have ⟨chainNodup, _⟩ := hs.recordFits r hr
  Pool.freeCount_release s.pool r.cells chainNodup fun _ hc => hs.record_cell_not_free hr hc

end State

theorem exec_take_of_empty (s : State) (h : s.recv.records = []) : exec .take s = .next (s.withResult .empty) := by
  change execTake s = _
  simp [execTake, h]

theorem exec_take_of_cons (s : State) (head : ReceiveRecord) (rest : List ReceiveRecord)
    (h : s.recv.records = head :: rest) :
    exec .take s = .next ((s.takeHead head rest).withResult .done).claimTest := by
  change execTake s = _
  simp [execTake, h]

/-- Settles O20: the two cases of TAKE, an empty Receive List and one with a head. What the claim test does after the
release touches neither the pool nor the list. -/
theorem takeFreesTheCellsOfTheHead : Obligations.TakeFreesTheCellsOfTheHead := by
  unfold Obligations.TakeFreesTheCellsOfTheHead
  refine ⟨fun s => ⟨fun hnil => exec_take_of_empty s hnil, fun head rest hcons => ?_⟩,
    fun s => ⟨fun hnil => ⟨_, exec_take_of_empty s hnil, rfl, rfl⟩, fun head rest hcons =>
      ⟨_, exec_take_of_cons s head rest hcons, ?records, ?owners, ?count⟩⟩⟩
  · rw [exec_take_of_cons s head rest hcons]
    cases rest <;> rfl
  case records => simp
  case owners =>
    intro c
    simpa using Pool.owners_release s.pool head.cells c
  case count =>
    intro hs
    have hmem : head ∈ s.recv.records := by simp [hcons]
    simpa using hs.freeCount_release_record hmem

end Sys2Proof.Machine

/-! SUPPORT. What an attempt that goes into BACKOFF makes of its entry, what CONFIGURE can do, and the statement about
the backoff delay. -/

namespace Sys2Proof.Machine

/-! ### An attempt that goes into BACKOFF -/

namespace State

/-- R67, the third case: neither cancelled nor at its retry limit, the entry goes into BACKOFF with the delay of R69. -/
theorem entry_consume_backoff (s : State) (h : Handle) (r : Reason) (going : (s.entry h).cancelPending = false)
    (below : (s.entry h).attempts + 1 ≠ (s.entry h).retryLimit) :
    (s.consume h r).entry h =
      { s.entry h with
        attempts := (s.entry h).attempts + 1, lastReason := r, state := .backoff
        backoff := s.backoffDelay ((s.entry h).attempts + 1) } := by
  simp [consume, going, below]

/-- The attempts used of an unfinished entry stay below a retry limit of at most 8 (R67), so one more attempt that does
not reach the limit makes at most 7. -/
theorem SuspensionKept.attempts_succ_le {s : State} (hs : s.SuspensionKept) {h : Handle}
    (unfinished : (s.entry h).state.unfinished = true) (below : (s.entry h).attempts + 1 ≠ (s.entry h).retryLimit) :
    (s.entry h).attempts + 1 ≤ 7 := by
  obtain ⟨limit_le, attempts_lt⟩ := hs.limit h unfinished
  omega

end State

/-! ### CONFIGURE -/

/-- What CONFIGURE can do (R194): with the line OFF it may store an item with the result DONE; otherwise it writes
RESULT alone. -/
theorem exec_configure_cases (s : State) :
    (s.line.state = .off ∧ exec .configure s = .next { s with window := { s.window with
        result := .done, settings := s.window.settings.store s.window.opA s.window.opB } })
    ∨ ∃ r, exec .configure s = .next (s.withResult r) := by
  change (_ ∧ execConfigure s = _) ∨ ∃ r, execConfigure s = _
  unfold execConfigure
  split
  next passed =>
    refine Or.inl ⟨?_, rfl⟩
    by_contra lineOn
    simp [State.configureResult, lineOn] at passed
  next => exact Or.inr ⟨_, rfl⟩

/-- CONFIGURE leaves the Send Queue, its backoff timers with it (R69). -/
theorem configure_keeps_queue {s t : State} (ht : exec .configure s = .next t) : t.queue = s.queue := by
  rcases exec_configure_cases s with ⟨-, stored⟩ | ⟨r, unstored⟩
  · cases stored.symm.trans ht
    rfl
  · cases unstored.symm.trans ht
    rfl

/-- CONFIGURE changes the settings only while the line is OFF (R194, test 1). -/
theorem configure_keeps_settings {s t : State} (ht : exec .configure s = .next t) (lineOn : s.line.state ≠ .off) :
    t.window.settings = s.window.settings := by
  rcases exec_configure_cases s with ⟨off, -⟩ | ⟨r, unstored⟩
  · exact absurd off lineOn
  · cases unstored.symm.trans ht
    rfl

/-- Settles O18: the entry that R67 leaves in BACKOFF gives the delay and the attempts used, the two cases of CONFIGURE
what stays, and the invariants the ranges. -/
theorem backoffDelayGrowsWithAttemptsAndNode : Obligations.BackoffDelayGrowsWithAttemptsAndNode := by
  unfold Obligations.BackoffDelayGrowsWithAttemptsAndNode
  refine ⟨fun s h r going below => ?delay, fun s t ht => ⟨configure_keeps_queue ht, configure_keeps_settings ht⟩,
    fun s h r hs inFlight going below => ?attempts,
    fun s hs => ⟨hs.backoffBase.left, hs.backoffBase.right, hs.node⟩, rfl⟩
  case delay =>
    rw [s.entry_consume_backoff h r going below]
    exact ⟨rfl, rfl⟩
  case attempts =>
    have unfinished : (s.entry h).state.unfinished = true := by rw [inFlight]; rfl
    rw [s.entry_consume_backoff h r going below]
    exact ⟨Nat.le_add_left 1 _, hs.attempts_succ_le unfinished below⟩

end Sys2Proof.Machine

/-! SUPPORT. What an entry's eligibility depends on, what TAKE REPORT does to an empty and to a filled Report List, and
the statement about TAKE REPORT. -/

namespace Sys2Proof.Machine

namespace State

/-! ### What eligibility depends on -/

/-- R63: the eligibility of an entry in the post-order list depends on that list, on the entries it holds, on the
Destination Table and on the Receive List. -/
theorem eligible_congr {s t : State} (order : t.queue.order = s.queue.order) (dests : t.queue.dests = s.queue.dests)
    (recv : t.recv = s.recv) (entries : ∀ g ∈ s.queue.order, t.entry g = s.entry g) {g : Handle}
    (hg : g ∈ s.queue.order) : t.eligible g = s.eligible g := by
  have older : (t.olderThan g).all (fun k => (t.entry k).dest != (s.entry g).dest)
      = (s.olderThan g).all (fun k => (s.entry k).dest != (s.entry g).dest) := by
    rw [Bool.eq_iff_iff, List.all_eq_true, List.all_eq_true]
    simp only [olderThan, order]
    refine forall₂_congr fun k hk => ?_
    rw [entries k (List.takeWhile_subset _ hk)]
  have destination (d : Nibble) : t.dest d = s.dest d := by simp [dest, dests]
  have places : t.occupancy = s.occupancy := by simp [occupancy, recv]
  simp only [eligible, entries g hg, older, destination, places]

/-! ### TAKE REPORT -/

theorem takeHeadReport_of_waiting_nil (s : State) (rest : List Report) (h : s.reports.waiting = []) :
    s.takeHeadReport rest = { s with reports := { records := rest, waiting := [] } } := by
  simp [takeHeadReport, h]

theorem takeHeadReport_of_waiting_cons (s : State) (rest : List Report) {h : Handle} {more : List Handle}
    (hw : s.reports.waiting = h :: more) :
    s.takeHeadReport rest =
      { s.withEntry h .free with
        reports := { records := rest ++ [s.reportOf h (s.entry h).outcome], waiting := more } } := by
  simp [takeHeadReport, hw]

@[simp] theorem takeHeadReport_pool (s : State) (rest : List Report) : (s.takeHeadReport rest).pool = s.pool := by
  unfold takeHeadReport; split <;> rfl

@[simp] theorem takeHeadReport_recv (s : State) (rest : List Report) : (s.takeHeadReport rest).recv = s.recv := by
  unfold takeHeadReport; split <;> rfl

@[simp] theorem takeHeadReport_queue_order (s : State) (rest : List Report) :
    (s.takeHeadReport rest).queue.order = s.queue.order := by
  unfold takeHeadReport; split <;> rfl

@[simp] theorem takeHeadReport_queue_dests (s : State) (rest : List Report) :
    (s.takeHeadReport rest).queue.dests = s.queue.dests := by
  unfold takeHeadReport; split <;> rfl

/-- R178: only the oldest waiting entry changes. -/
theorem entry_takeHeadReport_of_notMem (s : State) (rest : List Report) {g : Handle} (hg : g ∉ s.reports.waiting) :
    (s.takeHeadReport rest).entry g = s.entry g := by
  unfold takeHeadReport
  split
  next => rfl
  next h more waiting =>
    have hne : g ≠ h := by rintro rfl; simp [waiting] at hg
    exact s.entry_withEntry_ne .free hne

/-- R177: with no report there is no waiting entry either. -/
theorem QueueKept.waiting_eq_nil {s : State} (hs : s.QueueKept) (h : s.reports.records = []) :
    s.reports.waiting = [] := by
  by_contra waiting
  simpa [h] using hs.full waiting

/-- No waiting entry is in the post-order list: it is FINISHED (R56, R75). -/
theorem QueueKept.notMem_waiting {s : State} (hs : s.QueueKept) {g : Handle} (hg : g ∈ s.queue.order) :
    g ∉ s.reports.waiting := by
  intro waiting
  have unfinished := (hs.orderMember g).mp hg
  simp [(hs.waitingMember g).mp waiting, EntryState.unfinished] at unfinished

/-- TAKE REPORT leaves the eligibility of every entry in the post-order list. -/
theorem QueueKept.eligible_takeHeadReport {s : State} (hs : s.QueueKept) (rest : List Report) {g : Handle}
    (hg : g ∈ s.queue.order) : (s.takeHeadReport rest).eligible g = s.eligible g :=
  eligible_congr (by simp) (by simp) (by simp)
    (fun _ hk => s.entry_takeHeadReport_of_notMem rest (hs.notMem_waiting hk)) hg

end State

theorem exec_takeReport_of_empty (s : State) (h : s.reports.records = []) :
    exec .takeReport s = .next (s.withResult .empty) := by
  change execTakeReport s = _
  simp [execTakeReport, h]

theorem exec_takeReport_of_cons (s : State) (head : Report) (rest : List Report)
    (h : s.reports.records = head :: rest) :
    exec .takeReport s = .next ((s.takeHeadReport rest).withResult .done) := by
  change execTakeReport s = _
  simp [execTakeReport, h]

/-- Settles O21: TAKE REPORT without a report, with one and no waiting entry, and with a waiting entry; the entry freed
is FINISHED, so no entry in the post-order list changes. -/
theorem takeReportMovesTheOldestWaitingReportIn : Obligations.TakeReportMovesTheOldestWaitingReportIn := by
  unfold Obligations.TakeReportMovesTheOldestWaitingReportIn
  refine fun s => ⟨fun hnil => ⟨exec_takeReport_of_empty s hnil, fun hs => hs.waiting_eq_nil hnil⟩,
    fun head rest hcons => ⟨fun noneWaits => ?removed, fun h more oldest => ?moved, fun hs =>
      ⟨_, exec_takeReport_of_cons s head rest hcons, fun someWaits => ?lengths, fun noneWaits => ?shorter, by simp,
        fun g hg => hs.eligible_takeHeadReport rest hg⟩⟩⟩
  case removed =>
    rw [exec_takeReport_of_cons s head rest hcons, s.takeHeadReport_of_waiting_nil rest noneWaits]
    rfl
  case moved =>
    rw [exec_takeReport_of_cons s head rest hcons, s.takeHeadReport_of_waiting_cons rest oldest]
    rfl
  case lengths =>
    obtain ⟨h, more, oldest⟩ := List.exists_cons_of_ne_nil someWaits
    have full : rest.length + 1 = 8 := by simpa [hcons] using hs.full someWaits
    rw [s.takeHeadReport_of_waiting_cons rest oldest]
    refine ⟨by simpa using full, by simp [oldest], h, ?_⟩
    exact congrArg SendEntry.state (s.entry_withEntry_self h .free)
  case shorter =>
    rw [s.takeHeadReport_of_waiting_nil rest noneWaits]
    simp [hcons]

end Sys2Proof.Machine

/-! SUPPORT. What a write of EVENTS does to each sticky flag, one event that sets each of them, and the statement about
EVENTS. -/

namespace Sys2Proof.Machine

namespace State

/-! ### A write of EVENTS -/

/-- R185: the sticky flags whose places in the written byte hold a one are cleared. -/
def clearSticky (s : State) (v : Byte) : State :=
  { s with events := { s.events with
    lineStuck := if v.getLsbD 4 then false else s.events.lineStuck
    broadcastMissed := if v.getLsbD 5 then false else s.events.broadcastMissed
    windowError := if v.getLsbD 6 then false else s.events.windowError } }

@[simp] theorem clearSticky_line (s : State) (v : Byte) : (s.clearSticky v).line = s.line := rfl
@[simp] theorem clearSticky_recv (s : State) (v : Byte) : (s.clearSticky v).recv = s.recv := rfl
@[simp] theorem clearSticky_window (s : State) (v : Byte) : (s.clearSticky v).window = s.window := rfl

theorem clearSticky_lineStuck (s : State) {v : Byte} (one : v.getLsbD 4 = true) :
    (s.clearSticky v).events.lineStuck = false := by
  simp [clearSticky, one]

theorem clearSticky_broadcastMissed (s : State) {v : Byte} (one : v.getLsbD 5 = true) :
    (s.clearSticky v).events.broadcastMissed = false := by
  simp [clearSticky, one]

theorem clearSticky_windowError (s : State) {v : Byte} (one : v.getLsbD 6 = true) :
    (s.clearSticky v).events.windowError = false := by
  simp [clearSticky, one]

/-! ### Events that set a sticky flag -/

@[simp] theorem becomeStuck_events (s : State) : s.becomeStuck.events = { s.events with lineStuck := true } := by
  simp [becomeStuck]

/-- R16: the claim limit passes while its timer runs, in LISTENER or JOINING. -/
theorem claimLimitExpiry_of_runs (s : State) (runs : s.claimTimerRuns = true) :
    s.claimLimitExpiry = s.becomeStuck := by
  rcases (claimTimerRuns_iff s).mp runs with joining | ⟨role, listener⟩
  · simp [claimLimitExpiry, joining]
  · simp [claimLimitExpiry, listener]

@[simp] theorem missBroadcast_events (s : State) :
    s.missBroadcast.events = { s.events with broadcastMissed := true } := by
  simp [missBroadcast]

/-- R14, R137: LCL is seen released at a GATHERING node that holds an intake. -/
theorem seeRelease_of_gathering (s : State) (gathering : s.line.state = .listener .gathering)
    (taking : s.recv.intake.isSome = true) :
    s.seeRelease = s.missBroadcast.clearHoldOff.enterSettling := by
  simp [seeRelease, endEarly, gathering, taking]

end State

/-- The meaning of EVENTS_WRITE in the words of R185: a one clears, a zero keeps. -/
theorem exec_eventsWrite (s : State) (v : Byte) : exec (.eventsWrite v) s = .next (s.clearSticky v) := by
  have keep_and (flag one : Bool) : (flag && !one) = if one then false else flag := by cases one <;> simp
  change execEventsWrite v s = _
  simp only [execEventsWrite, State.clearSticky, keep_and]

/-- Settles O27: what EVENTS_WRITE does to each flag, before and after another command; then R16, R137 and R184 set
the flags again. -/
theorem eventsWriteClearsTheStickyFlagsNamed : Obligations.EventsWriteClearsTheStickyFlagsNamed := by
  unfold Obligations.EventsWriteClearsTheStickyFlagsNamed
  refine fun s v => ⟨exec_eventsWrite s v, rfl, ?places, fun e t _ => ⟨_, exec_eventsWrite t v, rfl,
      t.clearSticky_lineStuck, t.clearSticky_broadcastMissed, t.clearSticky_windowError⟩,
    _, exec_eventsWrite s v, fun joining => ⟨_, rfl, ?stuck⟩, fun gathering taking => ⟨_, rfl, ?missed⟩, _, rfl, rfl⟩
  case places =>
    exact ⟨eventFlags_getLsbD s 4 (by decide), eventFlags_getLsbD s 5 (by decide), eventFlags_getLsbD s 6 (by decide)⟩
  case stuck =>
    have runs : (s.clearSticky v).claimTimerRuns = true := by simp [claimTimerRuns_iff, joining]
    simp [State.claimLimitExpiry_of_runs _ runs]
  case missed => simp [(s.clearSticky v).seeRelease_of_gathering gathering taking]

end Sys2Proof.Machine

/-! SUPPORT. What a byte reads after a write into a chain, what FILL DATA does detached, below the length and at it,
and the statement about FILL DATA. -/

namespace Sys2Proof.Machine

/-! ### A byte written into a chain -/

namespace Pool

/-- A write into a chain changes the bytes alone. -/
theorem writeByte_eq (p : Pool) (cells : List CellNumber) (k : Nat) (v : Byte) :
    p.writeByte cells k v = { p with mem := (p.writeByte cells k v).mem } := by
  unfold writeByte; split <;> rfl

/-- R39, R45: what a byte of the memory reads after byte k of a chain is written. -/
theorem read_writeByte (p : Pool) {cells : List CellNumber} {k : Nat} {c : CellNumber} (v : Byte) (b : Nat)
    (place : cells[k / 32]? = some c) (wf : p.mem.wf = true) :
    (p.writeByte cells k v).mem.read b = if b = 32 * c.val + k % 32 then v else p.mem.read b := by
  have address : chainAddress cells k = some (32 * c.val + k % 32) := by simp [chainAddress, place]
  simp only [writeByte, address]
  exact Memory.read_write p.mem _ b v wf

end Pool

/-! ### FILL DATA -/

namespace State

/-- R197: the byte stands at the cursor's place in the buffer's chain, and the cursor has advanced by one. -/
def storeAtCursor (s : State) (f : FillCursor) (v : Byte) : State :=
  (s.withPool (s.pool.writeByte (s.bufferCells f.buffer) f.position v)).withFill
    (some { f with position := f.position + 1 })

@[simp] theorem storeAtCursor_pool (s : State) (f : FillCursor) (v : Byte) :
    (s.storeAtCursor f v).pool = s.pool.writeByte (s.bufferCells f.buffer) f.position v := rfl

/-- FILL DATA below the length changes the bytes of the memory and the cursor alone. -/
theorem storeAtCursor_eq (s : State) (f : FillCursor) (v : Byte) :
    s.storeAtCursor f v = { s with
      pool := { s.pool with mem := (s.storeAtCursor f v).pool.mem }
      window := { s.window with fill := some { f with position := f.position + 1 } } } :=
  congrArg (fun p => (s.withPool p).withFill (some { f with position := f.position + 1 }))
    (s.pool.writeByte_eq (s.bufferCells f.buffer) f.position v)

/-- R197: the cursor of a staging buffer of length 0 stands at the length. -/
theorem StagingKept.position_eq_length {s : State} (hs : s.StagingKept) {f : FillCursor}
    (attached : s.window.fill = some f) (empty : s.bufferLength f.buffer = 0) :
    f.position = s.bufferLength f.buffer := by
  have within := hs.position f attached
  omega

end State

theorem exec_fillData_of_detached (s : State) (v : Byte) (detached : s.window.fill = none) :
    exec (.fillData v) s = .next s.windowError := by
  change execFillData v s = _
  simp [execFillData, detached]

theorem exec_fillData_of_below (s : State) (v : Byte) {f : FillCursor} (attached : s.window.fill = some f)
    (below : f.position < s.bufferLength f.buffer) : exec (.fillData v) s = .next (s.storeAtCursor f v) := by
  change execFillData v s = _
  simp [execFillData, attached, below, State.storeAtCursor]

theorem exec_fillData_of_not_below (s : State) (v : Byte) {f : FillCursor} (attached : s.window.fill = some f)
    (notBelow : ¬ f.position < s.bufferLength f.buffer) : exec (.fillData v) s = .next s.windowError := by
  change execFillData v s = _
  simp [execFillData, attached, notBelow]

/-- FILL DATA leaves the cursor attached to its buffer and never moves it back (R197). -/
theorem fillData_keeps_buffer {s t : State} {v : Byte} {f : FillCursor} (attached : s.window.fill = some f)
    (ht : exec (.fillData v) s = .next t) :
    ∃ g, t.window.fill = some g ∧ g.buffer = f.buffer ∧ f.position ≤ g.position := by
  by_cases below : f.position < s.bufferLength f.buffer
  · cases (exec_fillData_of_below s v attached below).symm.trans ht
    exact ⟨_, rfl, rfl, Nat.le_succ _⟩
  · cases (exec_fillData_of_not_below s v attached below).symm.trans ht
    exact ⟨f, attached, rfl, le_rfl⟩

/-- Settles O25: FILL DATA detached, at the length and below it; an empty buffer has its cursor at the length. -/
theorem fillDataStoresAtTheCursorOrIsAWindowError : Obligations.FillDataStoresAtTheCursorOrIsAWindowError := by
  unfold Obligations.FillDataStoresAtTheCursorOrIsAWindowError
  intro s v length chain
  have length_eq (b : Buffer) : length b = s.bufferLength b := by cases b <;> rfl
  have chain_eq (b : Buffer) : chain b = s.bufferCells b := by cases b <;> rfl
  simp only [length_eq, chain_eq]
  refine ⟨exec_fillData_of_detached s v,
    fun f attached atLength => exec_fillData_of_not_below s v attached atLength.not_lt,
    fun f attached below => ⟨_, exec_fillData_of_below s v attached below, s.storeAtCursor_eq f v,
      fun c place wf => ?bytes⟩,
    fun f attached empty hs => exec_fillData_of_not_below s v attached (hs.position_eq_length attached empty).not_lt,
    fun f t attached ht => fillData_keeps_buffer attached ht⟩
  case bytes =>
    have reads (b : Nat) := s.pool.read_writeByte v b place wf
    rw [s.storeAtCursor_pool f v]
    exact ⟨(reads _).trans (if_pos rfl), fun b elsewhere => (reads b).trans (if_neg elsewhere)⟩

end Sys2Proof.Machine

/-! SUPPORT. What the part can do: every command, every expiry and the passing of a bit period is made of the moves of
`State.Moves`, each with the conditions under which it is made. The invariants are proved over the moves, so that no
proof of an invariant runs through the commands. -/

namespace Sys2Proof.Machine

/-- The Line Engine is bound to no send entry (as MASTER) and to no offer (as SERVING). -/
def LineState.unbound : LineState → Bool
  | .master _ | .listener (.serving _) => false
  | .off | .joining | .settling | .quiet | .stuck => true
  | .listener .undecided | .listener .addressed | .listener .gathering | .listener .bystander => true

theorem LineState.ne_master_of_unbound {x : LineState} (hx : x.unbound = true) (h : Handle) : x ≠ .master h := by
  rintro rfl; simp [unbound] at hx

theorem LineState.ne_serving_of_unbound {x : LineState} (hx : x.unbound = true) (i : OfferIndex) :
    x ≠ .listener (.serving i) := by
  rintro rfl; simp [unbound] at hx

namespace State

/-- What the invariants speak of is the same: at most RESULT, an operand register, VIEW SELECT, the statistics, the
events, the Source Table, the arrival counter, the byte on the bus and the model's own fields differ. -/
structure SameBlocks (s t : State) : Prop where
  line : t.line = s.line
  pool : t.pool = s.pool
  queue : t.queue = s.queue
  records : t.recv.records = s.recv.records
  intake : t.recv.intake = s.recv.intake
  drain : t.recv.drain = s.recv.drain
  offers : t.offers = s.offers
  reports : t.reports = s.reports
  settings : t.window.settings = s.window.settings
  fill : t.window.fill = s.window.fill

/-- The timers, hold-off and the sums are kept in their rules when the Line Engine becomes `l`. -/
def EngineTo (s : State) (l : LineEngine) : Prop := s.EngineKept → (s.withLine l).EngineKept

/-- The Line Engine goes on in its state: an intake that is taken in goes on being taken in, and a master goes on with
its kind, the payload count of a COLLECT within its maximum. -/
structure GoesOn (s : State) (l : LineEngine) : Prop where
  state : l.state = s.line.state
  engine : s.EngineTo l
  takes : s.recv.intake.isSome = true → s.takesIn → (s.withLine l).takesIn
  kind : ∀ h, s.line.state = .master h → l.kind = s.line.kind
  count : ∀ h, s.line.state = .master h → s.line.kind = some .collect →
    s.line.payloadCount ≤ (s.entry h).length → l.payloadCount ≤ (s.entry h).length

/-- The moves of the part. -/
inductive Moves : State → State → Prop
  | same {s t : State} (blocks : s.SameBlocks t) (pending : t.pending = s.pending)
      (count : t.expiryCount = s.expiryCount) : Moves s t
  | trans {s t u : State} (first : Moves s t) (second : Moves t u) : Moves s u
  -- resets and settings
  | powerOn (s : State) : Moves s { State.reset with pending := s.pending, expiryCount := s.expiryCount }
  | softReset (s : State) : Moves s
      { State.reset with
        pool := { Pool.reset with mem := s.pool.mem }
        window := { HostWindow.reset with settings := s.window.settings }
        busData := s.busData, expiryCount := s.expiryCount, pending := s.pending }
  | store (s : State) (inRange : itemInRange s.window.opA s.window.opB = true)
      (allFree : s.window.opA = 0 → s.allFree = true) : Moves s
      { s with window := { s.window with settings := s.window.settings.store s.window.opA s.window.opB } }
  -- the send entries
  | openSend (s : State) (h : Handle) (n : Nat) (noStaging : s.noStaging = true) (length : n ≤ 128)
      (slot : (s.entry h).state = .free) (cells : s.pool.grantsHost s.window.settings.reserve n = true) :
      Moves s (s.openSend h n)
  | post (s : State) (h : Handle) (k : Kind) (staging : (s.entry h).state = .staging)
      (dest : destinationFits k s.postDest = true) (other : s.postDest ≠ s.window.settings.node)
      (length : lengthFits k (s.entry h).length = true) (retry : s.postRetry ≤ 8) : Moves s (s.postEntry h k)
  | dropStaging (s : State) (h : Handle) (staging : (s.entry h).state = .staging) : Moves s (s.dropStaging h)
  | finish (s : State) (h : Handle) (o : SendOutcome)
      (waits : (s.entry h).state = .ready ∨ (s.entry h).state = .backoff ∨ (s.entry h).state = .held) :
      Moves s (s.finish h o)
  | cancelPending (s : State) (h : Handle) (flight : (s.entry h).state = .inFlight) :
      Moves s (s.withEntry h { s.entry h with cancelPending := true })
  | halted (s : State) (b : Bool) : Moves s { s with queue := { s.queue with halted := b } }
  | resume (s : State) (d : Nibble) : Moves s (s.resumeDest d)
  | discard (s : State) (d : Nibble) : Moves s (s.discardDest d)
  | backoffEnds (s : State) (h : Handle) (backoff : (s.entry h).state = .backoff) :
      Moves s (s.withEntry h { s.entry h with state := .ready, backoff := 0 })
  | claim (s : State) (h : Handle) (quiet : s.line.state = .quiet) (holdOff : s.line.holdOff = false)
      (waits : h ∈ s.queue.order) (eligible : s.eligible h = true) : Moves s (s.claim h)
  -- the lists
  | takeHead (s : State) (head : ReceiveRecord) (rest : List ReceiveRecord) (cons : s.recv.records = head :: rest) :
      Moves s (s.takeHead head rest)
  | takeHeadReport (s : State) (head : Report) (rest : List Report) (cons : s.reports.records = head :: rest) :
      Moves s (s.takeHeadReport rest)
  | drain (s : State) (n : Nat) (r : ReceiveRecord) (rest : List ReceiveRecord) (attached : s.recv.drain = some n)
      (cons : s.recv.records = r :: rest) (below : n < r.length) :
      Moves s (s.withRecv { s.recv with drain := some (n + 1) })
  -- the offers
  | openOffer (s : State) (i : OfferIndex) (n : Nat) (addressee : Nibble) (noStaging : s.noStaging = true)
      (slot : (s.offerAt i).state = .free) (cells : s.pool.grantsHost s.window.settings.reserve n = true) :
      Moves s (s.openOffer i n addressee)
  | postOffer (s : State) (i : OfferIndex) (staging : (s.offerAt i).state = .staging) : Moves s (s.postOffer i)
  | withdrawStaging (s : State) (i : OfferIndex) (staging : (s.offerAt i).state = .staging) :
      Moves s ((s.dropOffer i .free).withFill none)
  | withdrawPosted (s : State) (i : OfferIndex) (posted : (s.offerAt i).state = .posted) :
      Moves s (s.dropOffer i .free)
  | withdrawServing (s : State) (i : OfferIndex) (serving : (s.offerAt i).state = .serving) :
      Moves s (s.withOffer i { s.offerAt i with withdrawPending := true })
  | clearOffer (s : State) (i : OfferIndex) (taken : (s.offerAt i).state = .taken) : Moves s (s.withOffer i .free)
  -- bytes
  | fill (s : State) (f : FillCursor) (attached : s.window.fill = some f)
      (below : f.position < s.bufferLength f.buffer) :
      Moves s (s.withFill (some { f with position := f.position + 1 }))
  | write (s : State) (cells : List CellNumber) (k : Nat) (v : Byte) :
      Moves s (s.withPool (s.pool.writeByte cells k v))
  -- time
  | bitPeriod (s : State) : Moves s s.bitPeriod
  -- the Line Engine
  | goOn (s : State) (l : LineEngine) (on : s.GoesOn l) : Moves s (s.withLine l)
  | unbound (s : State) (l : LineEngine) (engine : s.EngineTo l) (before : s.line.state.unbound = true)
      (after : l.state.unbound = true) (notTaking : ¬ s.takesIn) : Moves s (s.withLine l)
  | discardIntake (s : State) (l : LineEngine) (engine : s.EngineTo l) (listens : ∃ r, s.line.state = .listener r)
      (after : l.state = s.line.state ∨ s.line.state.unbound = true ∧ l.state.unbound = true) :
      Moves s (s.discardIntake.withLine l)
  | takeIn (s : State) (l : LineEngine) (engine : s.EngineTo l)
      (taker : s.line.state = .listener .addressed ∨ s.line.state = .listener .gathering)
      (state : l.state = s.line.state) (notTaking : ¬ s.takesIn) (taking : (s.withLine l).takesIn)
      (place : s.occupancy < if l.urgentFlag = true ∧ s.line.state = .listener .addressed then 12 else 10)
      (cells : s.pool.grantsIntake l.lengthField = true) : Moves s (s.withLine l).beginIntake
  | commitIntake (s : State) (k : RecordKind) (l : LineEngine) (engine : s.EngineTo l)
      (taker : s.line.state = .listener .addressed ∧ k = .data ∨ s.line.state = .listener .gathering ∧ k = .broadcast)
      (state : l.state = s.line.state) : Moves s ((s.commitIntake k).withLine l)
  | serve (s : State) (i : OfferIndex) (l : LineEngine) (engine : s.EngineTo l)
      (before : s.line.state.unbound = true) (posted : (s.offerAt i).state = .posted)
      (after : l.state = .listener (.serving i)) (notTaking : ¬ s.takesIn) :
      Moves s ((s.withOffer i { s.offerAt i with state := .serving }).withLine l)
  | returnOffer (s : State) (i : OfferIndex) (l : LineEngine) (engine : s.EngineTo l)
      (serving : s.line.state = .listener (.serving i)) (after : l.state.unbound = true) :
      Moves s ((s.returnOffer i).withLine l)
  | giveOffer (s : State) (i : OfferIndex) (o : Nibble) (l : LineEngine) (engine : s.EngineTo l)
      (serving : s.line.state = .listener (.serving i)) (after : l.state.unbound = true) :
      Moves s ((s.giveOffer i o).withLine l)
  | handBack (s : State) (h : Handle) (l : LineEngine) (engine : s.EngineTo l) (master : s.line.state = .master h)
      (after : l.state.unbound = true) : Moves s ((s.handBack h).withLine l)
  | consume (s : State) (h : Handle) (r : Reason) (l : LineEngine) (engine : s.EngineTo l)
      (master : s.line.state = .master h) (after : l.state.unbound = true) : Moves s ((s.consume h r).withLine l)
  | settle (s : State) (h : Handle) (o : SendOutcome) (l : LineEngine) (engine : s.EngineTo l)
      (master : s.line.state = .master h) (after : l.state.unbound = true) : Moves s ((s.settle h o).withLine l)
  | collected (s : State) (h : Handle) (l : LineEngine) (engine : s.EngineTo l) (master : s.line.state = .master h)
      (collect : s.line.kind = some .collect) (after : l.state.unbound = true) : Moves s ((s.collected h).withLine l)

end State
end Sys2Proof.Machine

/-! SUPPORT. The Line Engine's part of the moves: the sums after a frame, and which changes of the Line Engine keep its
timers, hold-off and sums in their rules. -/

namespace Sys2Proof.Machine

/-! ### The sums -/

theorem addMod255_lt (x y : Byte) : (addMod255 x y).toNat < 255 := by
  have small : (x.toNat + y.toNat) % 255 < 255 := Nat.mod_lt _ (by decide)
  rw [addMod255, byte, BitVec.toNat_ofNat, Nat.mod_eq_of_lt (by omega)]
  exact small

namespace LineEngine

/-- R36: the sums are 0 to 254. -/
def sumsKept (l : LineEngine) : Prop := l.s1.toNat < 255 ∧ l.s2.toNat < 255

@[simp] theorem addFrame_state (l : LineEngine) (f : Byte) : (l.addFrame f).state = l.state := rfl
@[simp] theorem addFrame_phase (l : LineEngine) (f : Byte) : (l.addFrame f).phase = l.phase := rfl
@[simp] theorem addFrame_frames (l : LineEngine) (f : Byte) : (l.addFrame f).frames = l.frames := rfl
@[simp] theorem addFrame_record (l : LineEngine) (f : Byte) : (l.addFrame f).record = l.record := rfl
@[simp] theorem addFrame_quietTimer (l : LineEngine) (f : Byte) : (l.addFrame f).quietTimer = l.quietTimer := rfl
@[simp] theorem addFrame_longQuietTimer (l : LineEngine) (f : Byte) :
    (l.addFrame f).longQuietTimer = l.longQuietTimer := rfl
@[simp] theorem addFrame_claimTimer (l : LineEngine) (f : Byte) : (l.addFrame f).claimTimer = l.claimTimer := rfl
@[simp] theorem addFrame_holdOff (l : LineEngine) (f : Byte) : (l.addFrame f).holdOff = l.holdOff := rfl

theorem addFrame_sumsKept (l : LineEngine) (f : Byte) : (l.addFrame f).sumsKept :=
  ⟨addMod255_lt _ _, addMod255_lt _ _⟩

/-- A header frame is added to the sums or not at all (R37). -/
theorem addHeaderFrame_cases (l : LineEngine) (f : Byte) :
    l.addHeaderFrame f = l.addFrame f ∨ l.addHeaderFrame f = l := by
  unfold addHeaderFrame; split
  · exact Or.inl rfl
  · exact Or.inr rfl

@[simp] theorem addHeaderFrame_state (l : LineEngine) (f : Byte) : (l.addHeaderFrame f).state = l.state := by
  rcases l.addHeaderFrame_cases f with h | h <;> simp [h]
@[simp] theorem addHeaderFrame_phase (l : LineEngine) (f : Byte) : (l.addHeaderFrame f).phase = l.phase := by
  rcases l.addHeaderFrame_cases f with h | h <;> simp [h]
@[simp] theorem addHeaderFrame_frames (l : LineEngine) (f : Byte) : (l.addHeaderFrame f).frames = l.frames := by
  rcases l.addHeaderFrame_cases f with h | h <;> simp [h]
@[simp] theorem addHeaderFrame_record (l : LineEngine) (f : Byte) : (l.addHeaderFrame f).record = l.record := by
  rcases l.addHeaderFrame_cases f with h | h <;> simp [h]
@[simp] theorem addHeaderFrame_quietTimer (l : LineEngine) (f : Byte) :
    (l.addHeaderFrame f).quietTimer = l.quietTimer := by
  rcases l.addHeaderFrame_cases f with h | h <;> simp [h]
@[simp] theorem addHeaderFrame_longQuietTimer (l : LineEngine) (f : Byte) :
    (l.addHeaderFrame f).longQuietTimer = l.longQuietTimer := by
  rcases l.addHeaderFrame_cases f with h | h <;> simp [h]
@[simp] theorem addHeaderFrame_claimTimer (l : LineEngine) (f : Byte) :
    (l.addHeaderFrame f).claimTimer = l.claimTimer := by
  rcases l.addHeaderFrame_cases f with h | h <;> simp [h]
@[simp] theorem addHeaderFrame_holdOff (l : LineEngine) (f : Byte) : (l.addHeaderFrame f).holdOff = l.holdOff := by
  rcases l.addHeaderFrame_cases f with h | h <;> simp [h]

theorem addHeaderFrame_sumsKept (l : LineEngine) (f : Byte) (h : l.sumsKept) : (l.addHeaderFrame f).sumsKept := by
  rcases l.addHeaderFrame_cases f with e | e
  · rw [e]; exact l.addFrame_sumsKept f
  · rw [e]; exact h

/-- The timers and hold-off of `l` are those of `k`, and its sums are in their range where those of `k` are. -/
structure SameTimers (k l : LineEngine) : Prop where
  quietTimer : l.quietTimer = k.quietTimer
  longQuietTimer : l.longQuietTimer = k.longQuietTimer
  claimTimer : l.claimTimer = k.claimTimer
  holdOff : l.holdOff = k.holdOff
  sums : k.sumsKept → l.sumsKept

end LineEngine

namespace State

/-! ### Which changes keep the Line Engine in its rules -/

theorem EngineKept.congr {s t : State} (hs : s.EngineKept) (line : t.line = s.line) : t.EngineKept := by
  have runs : t.claimTimerRuns = s.claimTimerRuns := by simp [claimTimerRuns, line]
  obtain ⟨quiet, claim, long, master, joining, off, sums⟩ := hs
  constructor <;> simpa only [line, runs]

theorem EngineTo.congr {s t : State} {l : LineEngine} (line : t.line = s.line) (engine : s.EngineTo l) :
    t.EngineTo l := fun ht => (engine (ht.congr line.symm)).congr rfl

/-- A frame of an exchange: the node stays MASTER, or LISTENER in whatever role. -/
theorem engineTo_of_sameTimers {s : State} {l : LineEngine} (timers : s.line.SameTimers l)
    (exchange : (∃ h, s.line.state = .master h ∧ l.state = .master h)
      ∨ ∃ r q, s.line.state = .listener r ∧ l.state = .listener q) : s.EngineTo l := by
  obtain ⟨tq, tl, tc, th, ts⟩ := timers
  rintro ⟨quiet, claim, long, master, -, -, sums⟩
  rcases exchange with ⟨h, before, after⟩ | ⟨r, q, before, after⟩ <;>
    exact ⟨by simpa [tq, before, after] using quiet, by simpa [claimTimerRuns, tc, before, after] using claim,
      by simpa [tl, before, after] using long, by simpa [th, before, after] using master, by simp [after], by simp [after],
      ts sums⟩

/-- R5, R13: SETTLING, the long-quiet timer running with hold-off. -/
theorem engineTo_settling {s : State} {l : LineEngine} (state : l.state = .settling) (quiet : l.quietTimer.isSome = true)
    (claim : l.claimTimer = none) (long : l.longQuietTimer.isSome = l.holdOff) (sums : s.line.sumsKept → l.sumsKept) :
    s.EngineTo l := fun hs =>
  ⟨by simp [state, quiet], by simp [claimTimerRuns, state, claim], by simp [state, long], by simp [state],
    by simp [state], by simp [state], sums hs.sums⟩

/-- R6, R9, R10, R13: an exchange begins to be listened to, or is given up by its master: LISTENER with the claim-limit
timer started. -/
theorem engineTo_listener {s : State} {l : LineEngine} {r : Role} (state : l.state = .listener r)
    (quiet : s.EngineKept → l.quietTimer = none) (claim : l.claimTimer.isSome = true)
    (long : s.EngineKept → l.longQuietTimer = none) (sums : s.line.sumsKept → l.sumsKept) : s.EngineTo l := fun hs =>
  ⟨by simp [state, quiet hs], by simp [claimTimerRuns, state, claim], by simp [state, long hs], by simp [state],
    by simp [state], by simp [state], sums hs.sums⟩

/-- R16: STUCK runs no timer. -/
theorem engineTo_stuck {s : State} {l : LineEngine} (state : l.state = .stuck) (quiet : l.quietTimer = none)
    (claim : l.claimTimer = none) (long : l.longQuietTimer = none) (sums : s.line.sumsKept → l.sumsKept) :
    s.EngineTo l := fun hs =>
  ⟨by simp [state, quiet], by simp [claimTimerRuns, state, claim], by simp [state, long], by simp [state],
    by simp [state], by simp [state], sums hs.sums⟩

/-- R20: OFF holds the values of TABLE 1-4. -/
theorem engineTo_reset (s : State) : s.EngineTo .reset := fun _ =>
  ⟨by simp [LineEngine.reset], by simp [claimTimerRuns, LineEngine.reset], by simp [LineEngine.reset],
    by simp [LineEngine.reset], by simp [LineEngine.reset], fun _ => rfl, by simp [LineEngine.reset]⟩

/-- R18: JOINING, from the values of TABLE 1-4. -/
theorem engineTo_joining (s : State) :
    s.EngineTo { LineEngine.reset with state := .joining, claimTimer := some 0 } := fun _ =>
  ⟨by simp [LineEngine.reset], by simp [claimTimerRuns], by simp [LineEngine.reset],
    by simp [LineEngine.reset], by simp [LineEngine.reset], by simp, by simp [LineEngine.reset]⟩

/-- R5: QUIET follows SETTLING; the long-quiet timer goes on as it was. -/
theorem engineTo_quiet {s : State} (settling : s.line.state = .settling) :
    s.EngineTo { s.line with state := .quiet, quietTimer := none } := by
  rintro ⟨-, claim, long, -, -, -, sums⟩
  exact ⟨by simp, by simpa [claimTimerRuns, settling] using claim, by simpa [settling] using long, by simp, by simp,
    by simp, sums⟩

/-- R12: hold-off is cleared, and the long-quiet timer stops; the state stays. -/
theorem engineTo_clearHoldOff {s : State} (running : s.line.longQuietTimer.isSome = true) :
    s.EngineTo { s.line with holdOff := false, longQuietTimer := none } := by
  rintro ⟨quiet, claim, long, -, -, off, sums⟩
  have notOff : s.line.state ≠ .off := by
    intro h
    rw [off h] at running
    simp [LineEngine.reset] at running
  exact ⟨quiet, claim, by simp, by simp, by simp, fun h => absurd h notOff, sums⟩

/-- A master has no quiet and no long-quiet timer running, and hold-off clear (R7). -/
theorem EngineKept.timers_of_master {s : State} (hs : s.EngineKept) {h : Handle} (master : s.line.state = .master h) :
    s.line.quietTimer = none ∧ s.line.longQuietTimer = none := by
  have quiet := hs.quietTimer
  have long := hs.longQuietTimer
  simp only [master] at quiet long
  constructor
  · simpa using quiet
  · simpa using long

end State
end Sys2Proof.Machine

/-! SUPPORT. Every well-formed command, and the passing of time, is made of moves. -/

namespace Sys2Proof.Machine
namespace State

/-! ### What changes no block -/

theorem Moves.refl (s : State) : s.Moves s :=
  .same ⟨rfl, rfl, rfl, rfl, rfl, rfl, rfl, rfl, rfl, rfl⟩ rfl rfl

theorem Moves.withResult {s t : State} (m : s.Moves t) (r : ResultCode) : s.Moves (t.withResult r) :=
  .trans m (.same ⟨rfl, rfl, rfl, rfl, rfl, rfl, rfl, rfl, rfl, rfl⟩ rfl rfl)

theorem Moves.withStats {s t : State} (m : s.Moves t) (c : Statistics) : s.Moves (t.withStats c) :=
  .trans m (.same ⟨rfl, rfl, rfl, rfl, rfl, rfl, rfl, rfl, rfl, rfl⟩ rfl rfl)

theorem Moves.withEvents {s t : State} (m : s.Moves t) (e : EventUnit) : s.Moves { t with events := e } :=
  .trans m (.same ⟨rfl, rfl, rfl, rfl, rfl, rfl, rfl, rfl, rfl, rfl⟩ rfl rfl)

theorem Moves.withBusData {s t : State} (m : s.Moves t) (b : Byte) : s.Moves { t with busData := b } :=
  .trans m (.same ⟨rfl, rfl, rfl, rfl, rfl, rfl, rfl, rfl, rfl, rfl⟩ rfl rfl)

theorem Moves.withSource {s t : State} (m : s.Moves t) (o : Nibble) (x : Source) : s.Moves (t.withSource o x) :=
  .trans m (.same ⟨by simp, by simp, by simp, by simp, by simp, by simp, by simp, by simp, by simp, by simp⟩
    (by simp) (by simp))

/-! ### The claim test -/

/-- R65: the entry selected is in the post-order list and eligible. -/
theorem selection_eligible {s : State} {h : Handle} (selected : s.selection = some h) :
    h ∈ s.queue.order ∧ s.eligible h = true := by
  rcases Option.or_eq_some_iff.mp selected with urgent | ⟨-, routine⟩
  · have fits := List.find?_some urgent
    rw [Bool.and_eq_true] at fits
    exact ⟨List.mem_of_find?_eq_some urgent, fits.1⟩
  · have fits := List.find?_some routine
    rw [Bool.and_eq_true] at fits
    exact ⟨List.mem_of_find?_eq_some routine, fits.1⟩

/-- R7: the claim test claims for the entry selected, or changes nothing. -/
theorem claimTest_moves (s : State) : s.Moves s.claimTest := by
  unfold claimTest
  split
  next ready =>
    obtain ⟨quiet, holdOff, -⟩ := ready
    split
    next h selected =>
      obtain ⟨waits, eligible⟩ := selection_eligible selected
      exact .claim s h quiet holdOff waits eligible
    next => exact .refl s
  next => exact .refl s

theorem Moves.claimTest {s t : State} (m : s.Moves t) : s.Moves t.claimTest := .trans m t.claimTest_moves

/-! ### Who takes in -/

theorem not_takesIn_of_state {s : State} (addressed : s.line.state ≠ .listener .addressed)
    (gathering : s.line.state ≠ .listener .gathering) : ¬ s.takesIn := by
  simp [takesIn, addressed, gathering]

/-- R125: before H3 has completed nothing is taken in. -/
theorem not_takesIn_of_h3 {s : State} (phase : s.line.phase = .h3) : ¬ s.takesIn := by
  simp [takesIn, phase, intakePhase]

theorem not_takesIn_of_h2 {s : State} (phase : s.line.phase = .h2) : ¬ s.takesIn := by
  simp [takesIn, phase, intakePhase]

theorem takesIn_of_addressed {s : State} (addressed : s.line.state = .listener .addressed) :
    s.takesIn ↔ s.line.record.answer = some .accept ∧ s.line.record.path = .new
      ∧ (intakePhase s.line.phase = true ∨ (s.line.phase = .v ∧ s.line.record.verdict = some .good)) := by
  simp [takesIn, addressed]

theorem takesIn_of_gathering {s : State} (gathering : s.line.state = .listener .gathering) :
    s.takesIn ↔ intakePhase s.line.phase = true := by
  simp [takesIn, gathering]

/-! ### Going on -/

theorem kind_congr {k l : LineEngine} (h0 : l.frames.h0 = k.frames.h0) : l.kind = k.kind := by
  simp [LineEngine.kind, LineEngine.kindField, h0]

theorem payloadCount_congr {k l : LineEngine} (h0 : l.frames.h0 = k.frames.h0) (h3 : l.frames.h3 = k.frames.h3)
    (hl : l.frames.l = k.frames.l) : l.payloadCount = k.payloadCount := by
  simp only [LineEngine.payloadCount, LineEngine.lengthField, kind_congr h0, h3, hl]

/-- A master goes on with the header and L it holds. -/
theorem goesOn_master {s : State} {l : LineEngine} {h : Handle} (master : s.line.state = .master h)
    (timers : s.line.SameTimers l) (state : l.state = s.line.state) (h0 : l.frames.h0 = s.line.frames.h0)
    (h3 : l.frames.h3 = s.line.frames.h3) (hl : l.frames.l = s.line.frames.l) : s.GoesOn l where
  state := state
  engine := engineTo_of_sameTimers timers (Or.inl ⟨h, master, state.trans master⟩)
  takes := fun _ takes => absurd takes (not_takesIn_of_state (by simp [master]) (by simp [master]))
  kind := fun _ _ => kind_congr h0
  count := fun _ _ _ within => by rwa [payloadCount_congr h0 h3 hl]

/-- A listener goes on, taking in what it takes in. -/
theorem goesOn_listener {s : State} {l : LineEngine} {r : Role} (listens : s.line.state = .listener r)
    (timers : s.line.SameTimers l) (state : l.state = s.line.state)
    (takes : s.takesIn → (s.withLine l).takesIn) : s.GoesOn l where
  state := state
  engine := engineTo_of_sameTimers timers (Or.inr ⟨r, r, listens, state.trans listens⟩)
  takes := fun _ => takes
  kind := fun h master => by simp [listens] at master
  count := fun h master => by simp [listens] at master

theorem payloadPhase_takes (l : LineEngine) : intakePhase l.payloadPhase = true := by
  unfold LineEngine.payloadPhase; split <;> rfl

theorem afterPayload_takes (l : LineEngine) (k : Nat) : intakePhase (l.afterPayload k) = true := by
  unfold LineEngine.afterPayload; split <;> rfl

/-- A listener that takes in goes on taking in while the phase stays between H3 and V. -/
theorem takesIn_of_intakePhase {s : State} {l : LineEngine} (state : l.state = s.line.state)
    (record : l.record = s.line.record) (phase : intakePhase l.phase = true) :
    s.takesIn → (s.withLine l).takesIn := by
  rintro (⟨addressed, answer, path, -⟩ | ⟨gathering, -⟩)
  · exact Or.inl ⟨state.trans addressed, by simpa [record] using answer, by simpa [record] using path, Or.inl phase⟩
  · exact Or.inr ⟨state.trans gathering, phase⟩

/-! ### Changes of the Line Engine that several commands make -/

end State

/-- R13: the Line Engine of a master that has released LCL. -/
def LineEngine.released (l : LineEngine) (lclLow : Bool) : LineEngine :=
  if lclLow then
    { l with
      state := .listener .bystander, holdOff := true, longQuietTimer := none, claimTimer := some 0
      phase := .complete, frames := .cleared, record := .cleared }
  else
    { l with
      state := .settling, holdOff := true, longQuietTimer := some 0, quietTimer := some 0, claimTimer := none
      phase := .idle, frames := .cleared, record := .cleared }

/-- R14, R17: the Line Engine once LCL is seen released. -/
def LineEngine.settled (l : LineEngine) : LineEngine :=
  { l with
    state := .settling, holdOff := false, longQuietTimer := none, quietTimer := some 0, claimTimer := none
    phase := .idle, frames := .cleared, record := .cleared }

/-- R118: the Line Engine of a BYSTANDER that assembles no further frame. -/
def LineEngine.bystander (l : LineEngine) : LineEngine := { l with state := .listener .bystander, phase := .complete }

namespace State

theorem releaseLine_eq (s : State) (low : Bool) : s.releaseLine low = s.withLine (s.line.released low) := by
  cases low <;> rfl

theorem becomeBystander_eq (s : State) : s.becomeBystander = s.withLine s.line.bystander := rfl

theorem clearHoldOff_enterSettling (s : State) : s.clearHoldOff.enterSettling = s.withLine s.line.settled := rfl

theorem released_unbound (l : LineEngine) (low : Bool) : (l.released low).state.unbound = true := by
  cases low <;> rfl

theorem engineTo_released {s : State} {h : Handle} (master : s.line.state = .master h) (low : Bool) :
    s.EngineTo (s.line.released low) := by
  cases low
  · exact engineTo_settling rfl rfl rfl rfl id
  · exact engineTo_listener (r := .bystander) rfl (fun hs => (hs.timers_of_master master).1) rfl (fun _ => rfl) id

theorem engineTo_settled (s : State) : s.EngineTo s.line.settled := engineTo_settling rfl rfl rfl rfl id

theorem engineTo_bystander {s : State} {r : Role} (listens : s.line.state = .listener r) :
    s.EngineTo s.line.bystander :=
  engineTo_of_sameTimers ⟨rfl, rfl, rfl, rfl, id⟩ (Or.inr ⟨r, .bystander, listens, rfl⟩)

end State
end Sys2Proof.Machine

namespace Sys2Proof.Machine

/-- The answer is a next state, reached by moves. -/
def Res.Completes (r : Res) (s : State) : Prop := ∃ t, r = .next t ∧ s.Moves t

namespace State

theorem Moves.completes {s t : State} (m : s.Moves t) : Res.Completes (.next t) s := ⟨t, rfl, m⟩

/-! ### The commands of the host -/

theorem execPowerOn_completes (s : State) : (execPowerOn s).Completes s := (Moves.powerOn s).completes

theorem execSoftReset_completes (s : State) : (execSoftReset s).Completes s := (Moves.softReset s).completes

/-- R194: CONFIGURE stores an item only with its value in range, and the node's number only with all FREE. -/
theorem configureResult_done {s : State} (passed : s.configureResult = .done) :
    itemInRange s.window.opA s.window.opB = true ∧ (s.window.opA = 0 → s.allFree = true) := by
  unfold configureResult at passed
  split_ifs at passed with lineOn item range node
  refine ⟨by simpa using range, fun zero => ?_⟩
  by_contra busy
  exact node ⟨zero, by simpa using busy⟩

theorem execConfigure_completes (s : State) : (execConfigure s).Completes s := by
  unfold execConfigure
  split
  next passed =>
    obtain ⟨range, free⟩ := configureResult_done passed
    exact ((Moves.store s range free).withResult .done).completes
  next => exact ((Moves.refl s).withResult _).completes

theorem execLineOn_completes (s : State) (low : Bool) : (execLineOn low s).Completes s := by
  unfold execLineOn
  split
  next off =>
    refine (Moves.withResult (.unbound s _ ?_ (by simp [off, LineState.unbound]) ?_
      (not_takesIn_of_state (by simp [off]) (by simp [off]))) .done).completes
    · cases low
      · exact engineTo_settling rfl rfl rfl rfl fun _ => by simp [LineEngine.sumsKept, LineEngine.reset]
      · exact engineTo_joining s
    · cases low <;> rfl
  next => exact ((Moves.refl s).withResult _).completes

/-- A node whose intake and offer are given up comes to rest: LINE OFF (R20) and the claim limit (R16). -/
theorem giveUp_moves {s : State} (l : LineEngine) (engine : s.EngineTo l) (notMaster : ∀ h, s.line.state ≠ .master h)
    (after : l.state.unbound = true) : s.Moves (s.giveUp.withLine l) := by
  unfold giveUp
  split
  next i serving =>
    have stays : s.Moves (s.discardIntake.withLine s.line) := .discardIntake s s.line id ⟨_, serving⟩ (Or.inl rfl)
    rw [show s.discardIntake.withLine s.line = s.discardIntake from
      congrArg s.discardIntake.withLine s.discardIntake_line.symm] at stays
    exact stays.trans (.returnOffer s.discardIntake i l (engine.congr (by simp)) (by simpa using serving) after)
  next r notServing listens =>
    refine .discardIntake s l engine ⟨r, listens⟩ (Or.inr ⟨?_, after⟩)
    cases r <;> simp_all [LineState.unbound]
  all_goals
    rename_i state
    refine .unbound s l engine ?_ after (not_takesIn_of_state ?_ ?_) <;> simp_all [LineState.unbound]

theorem execLineOff_completes (s : State) : (execLineOff s).Completes s := by
  unfold execLineOff
  split
  next h master =>
    exact (Moves.withResult (.handBack s h .reset s.engineTo_reset master rfl) .done).completes
  next r listens =>
    exact ((giveUp_moves .reset s.engineTo_reset (by simp [listens]) rfl).withResult .done).completes
  case h_7 off => exact ((Moves.refl s).withResult _).completes
  all_goals
    rename_i state
    refine (Moves.withResult (.unbound s .reset s.engineTo_reset (by simp [state, LineState.unbound]) rfl
      (not_takesIn_of_state (by simp [state]) (by simp [state]))) .done).completes

theorem execClearStatistics_completes (s : State) : (execClearStatistics s).Completes s :=
  (((Moves.refl s).withStats .zero).withResult .done).completes

theorem execUnknownCommand_completes (s : State) {code : Byte} (unnamed : namesCommand code = false) :
    (execUnknownCommand code s).Completes s := by
  unfold execUnknownCommand
  rw [if_neg (by simp [unnamed])]
  exact ((Moves.refl s).withResult _).completes

end State
end Sys2Proof.Machine

namespace Sys2Proof.Machine
namespace State

/-! ### The commands of the Send Queue -/

theorem lowestFreeEntry_free {s : State} {h : Handle} (lowest : s.lowestFreeEntry = some h) :
    (s.entry h).state = .free := by
  have fits := List.find?_some lowest
  simpa using fits

/-- TABLE 4-3: what holds when every test of OPEN SEND has passed. -/
theorem openSendTests_ok {s : State} {h : Handle} (passed : s.openSendTests = .ok h) :
    s.noStaging = true ∧ s.window.opA.toNat ≤ 128 ∧ (s.entry h).state = .free
      ∧ s.pool.grantsHost s.window.settings.reserve s.window.opA.toNat = true := by
  unfold openSendTests at passed
  split at passed
  · cases passed
  next staging =>
    split at passed
    · cases passed
    next length =>
      split at passed
      · cases passed
      next g lowest =>
        split at passed
        next cells =>
          cases passed
          exact ⟨by simpa using staging, by omega, lowestFreeEntry_free lowest, cells⟩
        · cases passed

theorem execOpenSend_completes (s : State) : (execOpenSend s).Completes s := by
  unfold execOpenSend
  split
  next => exact ((Moves.refl s).withResult _).completes
  next h passed =>
    obtain ⟨noStaging, length, slot, cells⟩ := openSendTests_ok passed
    exact (Moves.openSend s h _ noStaging length slot cells).completes

/-- TABLE 4-4: what holds when every test of POST has passed. -/
theorem postTests_ok {s : State} {h : Handle} {k : Kind} (passed : s.postTests = .ok (h, k)) :
    (s.entry h).state = .staging ∧ destinationFits k s.postDest = true ∧ s.postDest ≠ s.window.settings.node
      ∧ lengthFits k (s.entry h).length = true ∧ s.postRetry ≤ 8 := by
  unfold postTests at passed
  split at passed
  · cases passed
  next g _ =>
    split at passed
    · cases passed
    next staging =>
      split at passed
      · cases passed
      next =>
        split_ifs at passed with dest other length retry
        cases passed
        exact ⟨by simpa using staging, by simpa using dest, other, by simpa using length, by omega⟩

theorem execPost_completes (s : State) : (execPost s).Completes s := by
  unfold execPost
  split
  next => exact ((Moves.refl s).withResult _).completes
  next h k passed =>
    obtain ⟨staging, dest, other, length, retry⟩ := postTests_ok passed
    have posted := (Moves.post s h k staging dest other length retry).withResult .done
    split
    · exact posted.completes
    · exact posted.claimTest.completes

theorem execCancel_completes (s : State) : (execCancel s).Completes s := by
  unfold execCancel
  split
  next => exact ((Moves.refl s).withResult _).completes
  next h _ =>
    split
    case h_1 | h_2 => exact ((Moves.refl s).withResult _).completes
    case h_3 staging => exact ((Moves.dropStaging s h staging).withResult _).completes
    case h_4 ready => exact ((Moves.finish s h .cancelled (Or.inl ready)).withResult _).claimTest.completes
    case h_5 backoff => exact ((Moves.finish s h .cancelled (Or.inr (Or.inl backoff))).withResult _).claimTest.completes
    case h_6 held => exact ((Moves.finish s h .cancelled (Or.inr (Or.inr held))).withResult _).claimTest.completes
    case h_7 flight => exact ((Moves.cancelPending s h flight).withResult _).completes

theorem execHalt_completes (s : State) : (execHalt s).Completes s := ((Moves.halted s true).withResult _).completes

theorem execGo_completes (s : State) : (execGo s).Completes s :=
  ((Moves.halted s false).withResult _).claimTest.completes

theorem execResume_completes (s : State) : (execResume s).Completes s := by
  unfold execResume
  split
  · exact ((Moves.refl s).withResult _).completes
  · exact ((Moves.resume s _).withResult _).claimTest.completes

theorem execDiscard_completes (s : State) : (execDiscard s).Completes s := by
  unfold execDiscard
  split
  · exact ((Moves.refl s).withResult _).completes
  · exact ((Moves.discard s _).withResult _).claimTest.completes

/-! ### The commands of the Receive List and the Report List -/

theorem execTake_completes (s : State) : (execTake s).Completes s := by
  unfold execTake
  split
  · exact ((Moves.refl s).withResult _).completes
  next head rest cons => exact ((Moves.takeHead s head rest cons).withResult _).claimTest.completes

theorem execTakeReport_completes (s : State) : (execTakeReport s).Completes s := by
  unfold execTakeReport
  split
  · exact ((Moves.refl s).withResult _).completes
  next head rest cons => exact ((Moves.takeHeadReport s head rest cons).withResult _).completes

/-! ### The commands of the Offer Table -/

theorem lowestFreeOffer_free {s : State} {i : OfferIndex} (lowest : s.lowestFreeOffer = some i) :
    (s.offerAt i).state = .free := by
  have fits := List.find?_some lowest
  simpa using fits

/-- TABLE 9-3: what holds when every test of OPEN OFFER has passed. -/
theorem openOfferTests_ok {s : State} {i : OfferIndex} {a : Nibble} (passed : s.openOfferTests = .ok (i, a)) :
    s.noStaging = true ∧ (s.offerAt i).state = .free
      ∧ s.pool.grantsHost s.window.settings.reserve s.window.opA.toNat = true := by
  unfold openOfferTests at passed
  split at passed
  · cases passed
  next staging =>
    split at passed
    · cases passed
    next =>
      split at passed
      · cases passed
      next =>
        split at passed
        · cases passed
        next =>
          split at passed
          · cases passed
          next j lowest =>
            split at passed
            next cells =>
              cases passed
              exact ⟨by simpa using staging, lowestFreeOffer_free lowest, cells⟩
            · cases passed

theorem execOpenOffer_completes (s : State) : (execOpenOffer s).Completes s := by
  unfold execOpenOffer
  split
  · exact ((Moves.refl s).withResult _).completes
  next i a passed =>
    obtain ⟨noStaging, slot, cells⟩ := openOfferTests_ok passed
    exact (Moves.openOffer s i _ a noStaging slot cells).completes

theorem execPostOffer_completes (s : State) : (execPostOffer s).Completes s := by
  unfold execPostOffer
  split
  · exact ((Moves.refl s).withResult _).completes
  next i _ =>
    split
    next staging => exact ((Moves.postOffer s i staging).withResult _).completes
    · exact ((Moves.refl s).withResult _).completes

theorem execWithdraw_completes (s : State) : (execWithdraw s).Completes s := by
  unfold execWithdraw
  split
  · exact ((Moves.refl s).withResult _).completes
  next i _ =>
    split
    case h_1 | h_2 => exact ((Moves.refl s).withResult _).completes
    case h_3 staging => exact ((Moves.withdrawStaging s i staging).withResult _).completes
    case h_4 posted => exact ((Moves.withdrawPosted s i posted).withResult _).completes
    case h_5 serving => exact ((Moves.withdrawServing s i serving).withResult _).completes

theorem execClearOffer_completes (s : State) : (execClearOffer s).Completes s := by
  unfold execClearOffer
  split
  · exact ((Moves.refl s).withResult _).completes
  next i _ =>
    split
    next taken => exact ((Moves.clearOffer s i taken).withResult _).completes
    · exact ((Moves.refl s).withResult _).completes

/-! ### The register accesses -/

theorem Moves.windowError {s t : State} (m : s.Moves t) : s.Moves t.windowError := m.withEvents _

theorem execFillData_completes (v : Byte) (s : State) : (execFillData v s).Completes s := by
  unfold execFillData
  split
  · exact (Moves.refl s).windowError.completes
  next f attached =>
    split
    next below =>
      refine (Moves.trans (.fill s f attached below) (.write _ (s.bufferCells f.buffer) f.position v)).completes
    · exact (Moves.refl s).windowError.completes

theorem execDrainData_completes (s : State) : (execDrainData s).Completes s := by
  unfold execDrainData
  split
  next b reached =>
    unfold drainByte at reached
    split at reached
    next n r rest attached cons =>
      split at reached
      next below =>
        rw [attached]
        exact ((Moves.drain s n r rest attached cons below).withBusData b).completes
      · cases reached
    · cases reached
  · exact ((Moves.refl s).windowError.withBusData 0).completes

theorem execRegisterWrite_completes (r : WindowRegister) (v : Byte) (s : State) :
    (execRegisterWrite r v s).Completes s := by
  unfold execRegisterWrite
  cases r
  case status | drainData | view => exact (Moves.refl s).windowError.completes
  all_goals exact ⟨_, rfl, .same ⟨rfl, rfl, rfl, rfl, rfl, rfl, rfl, rfl, rfl, rfl⟩ rfl rfl⟩

/-! ### Timers and the line below the frame -/

theorem quietExpiry_moves (s : State) : s.Moves s.quietExpiry := by
  unfold quietExpiry
  split
  next settling =>
    exact (Moves.unbound s _ (engineTo_quiet settling) (by simp [settling, LineState.unbound]) rfl
      (not_takesIn_of_state (by simp [settling]) (by simp [settling]))).claimTest
  · exact .refl s

theorem longQuietExpiry_moves (s : State) : s.Moves s.longQuietExpiry := by
  unfold longQuietExpiry
  split
  next running =>
    refine (Moves.goOn s { s.line with holdOff := false, longQuietTimer := none }
      ⟨rfl, engineTo_clearHoldOff running, fun _ takes => takes, fun _ _ => rfl, fun _ _ _ within => within⟩).claimTest
  · exact .refl s

theorem claimLimitExpiry_moves (s : State) : s.Moves s.claimLimitExpiry := by
  have stuck (notMaster : ∀ h, s.line.state ≠ .master h) : s.Moves s.becomeStuck :=
    .trans (giveUp_moves _ (engineTo_stuck (l := { s.line with
        state := .stuck, quietTimer := none, longQuietTimer := none, claimTimer := none
        phase := .idle, frames := .cleared, record := .cleared }) rfl rfl rfl rfl id) notMaster rfl)
      (.same ⟨rfl, rfl, rfl, rfl, rfl, rfl, rfl, rfl, rfl, rfl⟩ rfl rfl)
  unfold claimLimitExpiry
  split
  next r listens => exact stuck (by simp [listens])
  next joining => exact stuck (by simp [joining])
  all_goals exact .refl s

theorem backoffExpiry_moves (s : State) (h : Handle) : s.Moves (s.backoffExpiry h) := by
  unfold backoffExpiry
  split
  next backoff => exact (Moves.backoffEnds s h backoff).claimTest
  · exact .refl s

theorem execLclSeenGoingLow_completes (s : State) : (execLclSeenGoingLow s).Completes s := by
  have listening (rest : s.line.state = .settling ∨ s.line.state = .quiet) : s.Moves s.beginListening := by
    refine .unbound s _ (engineTo_listener rfl (fun _ => rfl) rfl (fun _ => rfl)
      (fun _ => by simp [LineEngine.sumsKept])) ?_ rfl (not_takesIn_of_state ?_ ?_) <;>
    rcases rest with e | e <;> simp [e, LineState.unbound]
  unfold execLclSeenGoingLow
  split
  next settling => exact (listening (Or.inl settling)).completes
  next quiet => exact (listening (Or.inr quiet)).completes
  all_goals exact (Moves.refl s).completes

/-- R14, R17, R19: by the role, what is held is given up, and SETTLING is entered. -/
theorem seeRelease_moves (s : State) : s.Moves s.seeRelease := by
  have settledTo {t : State} (ht : t.line = s.line) : s.EngineTo t.line.settled := ht ▸ engineTo_settled s
  unfold seeRelease
  split
  case h_1 r listens =>
    rw [clearHoldOff_enterSettling, endEarly_line]
    have engine := engineTo_settled s
    cases r with
    | addressed =>
      simp only [endEarly, listens]
      split
      next accepted =>
        have m := (Moves.discardIntake s s.line.settled engine ⟨_, listens⟩
          (Or.inr ⟨by simp [listens, LineState.unbound], rfl⟩)).withStats
            { s.window.stats with cutShort := countUp s.window.stats.cutShort }
        exact m
      next notCut =>
        refine .unbound s _ engine (by simp [listens, LineState.unbound]) rfl fun takes => notCut ?_
        obtain ⟨answer, -, phase⟩ := (takesIn_of_addressed listens).mp takes
        refine ⟨answer, fun complete => ?_⟩
        simp [complete, intakePhase] at phase
    | gathering =>
      simp only [endEarly, listens]
      split
      next =>
        have m := ((Moves.discardIntake s s.line.settled engine ⟨_, listens⟩
          (Or.inr ⟨by simp [listens, LineState.unbound], rfl⟩)).withStats
            { s.window.stats with broadcastsMissed := countUp s.window.stats.broadcastsMissed }).withEvents
            { s.events with broadcastMissed := true }
        exact m
      next noIntake =>
        have m := Moves.discardIntake s s.line.settled engine ⟨_, listens⟩
          (Or.inr ⟨by simp [listens, LineState.unbound], rfl⟩)
        have none : s.discardIntake = s := by simp [discardIntake, Option.not_isSome_iff_eq_none.mp noIntake]
        rwa [none] at m
    | serving i =>
      simp only [endEarly, listens]
      exact .returnOffer s i _ engine listens rfl
    | undecided | bystander =>
      simp only [endEarly, listens]
      exact .unbound s _ engine (by simp [listens, LineState.unbound]) rfl
        (not_takesIn_of_state (by simp [listens]) (by simp [listens]))
  case h_2 stuck =>
    rw [clearHoldOff_enterSettling]
    exact .unbound s _ (engineTo_settled s) (by simp [stuck, LineState.unbound]) rfl
      (not_takesIn_of_state (by simp [stuck]) (by simp [stuck]))
  case h_3 joining =>
    refine .unbound s _ ?_ (by simp [joining, LineState.unbound]) rfl
      (not_takesIn_of_state (by simp [joining]) (by simp [joining]))
    intro hs
    have long := hs.longQuietTimer
    have clear := hs.joining joining
    simp only [joining] at long
    refine engineTo_settling rfl rfl rfl ?_ id hs
    simp [clear, show s.line.longQuietTimer = none by simpa [clear] using long]
  all_goals exact .refl s

theorem loseArbitration_moves {s : State} {h : Handle} (master : s.line.state = .master h) :
    s.Moves (s.loseArbitration h) := by
  have m := (Moves.handBack s h
    { s.line with
      state := .listener .undecided, claimTimer := some 0, phase := .h0, frames := .cleared, record := .cleared }
    (engineTo_listener rfl (fun hs => (hs.timers_of_master master).1) rfl
      (fun hs => (hs.timers_of_master master).2) id) master rfl).withStats
    { s.window.stats with claimsLost := countUp s.window.stats.claimsLost }
  exact m

theorem meetConflict_moves {s : State} {h : Handle} (master : s.line.state = .master h) :
    s.Moves (s.meetConflict h) := by
  have m := (Moves.consume s h .conflict
    { s.line with state := .listener .bystander, claimTimer := some 0, record := .cleared }
    (engineTo_listener rfl (fun hs => (hs.timers_of_master master).1) rfl
      (fun hs => (hs.timers_of_master master).2) id) master rfl).withStats
    { s.window.stats with conflicts := countUp s.window.stats.conflicts }
  exact m

theorem execLostArbitration_completes (low : Bool) (s : State) : (execLostArbitration low s).Completes s := by
  unfold execLostArbitration
  split
  next h master _ =>
    split
    · exact (loseArbitration_moves master).completes
    · exact (Moves.trans (loseArbitration_moves master) (seeRelease_moves _)).completes
  · exact (Moves.refl s).completes

theorem execConflict_completes (low : Bool) (s : State) : (execConflict low s).Completes s := by
  unfold execConflict
  split
  next h master =>
    split_ifs
    · exact (meetConflict_moves master).completes
    · exact (Moves.trans (meetConflict_moves master) (seeRelease_moves _)).completes
    · exact (Moves.refl s).completes
  all_goals exact (Moves.refl s).completes

end State
end Sys2Proof.Machine

namespace Sys2Proof.Machine

/-- R34: the Line Engine once a header frame has completed: the frames held, the frame added where it is covered. -/
def LineEngine.headerTo (l : LineEngine) (fs : Frames) (f : Byte) (p : Phase) : LineEngine :=
  { ({ l with frames := fs } : LineEngine).addHeaderFrame f with phase := p }

namespace LineEngine

@[simp] theorem headerTo_state (l : LineEngine) (fs : Frames) (f : Byte) (p : Phase) :
    (l.headerTo fs f p).state = l.state := by simp [headerTo]
@[simp] theorem headerTo_phase (l : LineEngine) (fs : Frames) (f : Byte) (p : Phase) :
    (l.headerTo fs f p).phase = p := rfl
@[simp] theorem headerTo_frames (l : LineEngine) (fs : Frames) (f : Byte) (p : Phase) :
    (l.headerTo fs f p).frames = fs := by simp [headerTo]
@[simp] theorem headerTo_record (l : LineEngine) (fs : Frames) (f : Byte) (p : Phase) :
    (l.headerTo fs f p).record = l.record := by simp [headerTo]

theorem headerTo_sameTimers (l : LineEngine) (fs : Frames) (f : Byte) (p : Phase) :
    l.SameTimers (l.headerTo fs f p) where
  quietTimer := by simp [headerTo]
  longQuietTimer := by simp [headerTo]
  claimTimer := by simp [headerTo]
  holdOff := by simp [headerTo]
  sums := fun kept => addHeaderFrame_sumsKept { l with frames := fs } f kept

end LineEngine

namespace State

/-! ### Header frames -/

theorem headerRead_eq (s : State) (fs : Frames) (f : Byte) (p : Phase) :
    s.headerRead fs f p = s.withLine (s.line.headerTo fs f p) := rfl

theorem headerDriven_eq (s : State) (f : Byte) (p : Phase) :
    s.headerDriven f p = s.withLine (s.line.headerTo s.line.frames f p) := rfl

theorem headerDriven_moves {s : State} {h : Handle} (master : s.line.state = .master h) (f : Byte) (p : Phase) :
    s.Moves (s.headerDriven f p) := by
  rw [headerDriven_eq]
  exact .goOn s _ (goesOn_master master (s.line.headerTo_sameTimers _ f p) (by simp) (by simp) (by simp) (by simp))

/-- A header frame read by a listener that takes nothing in yet. -/
theorem headerRead_moves {s : State} {r : Role} (listens : s.line.state = .listener r) (notTaking : ¬ s.takesIn)
    (fs : Frames) (f : Byte) (p : Phase) : s.Moves (s.headerRead fs f p) := by
  rw [headerRead_eq]
  exact .goOn s _ (goesOn_listener listens (s.line.headerTo_sameTimers fs f p) (by simp)
    fun takes => absurd takes notTaking)

theorem not_takesIn_of_undecided {s : State} (undecided : s.line.state = .listener .undecided) : ¬ s.takesIn :=
  not_takesIn_of_state (by simp [undecided]) (by simp [undecided])

theorem not_takesIn_of_bystander {s : State} (bystander : s.line.state = .listener .bystander) : ¬ s.takesIn :=
  not_takesIn_of_state (by simp [bystander]) (by simp [bystander])

theorem readH0_moves {s : State} (undecided : s.line.state = .listener .undecided) (f : Byte) :
    s.Moves (s.readH0 f) :=
  headerRead_moves undecided (not_takesIn_of_undecided undecided) _ f _

/-- R8: a BYSTANDER that has withdrawn in a frame holds it. -/
theorem holdCarried_moves {s : State} (bystander : s.line.state = .listener .bystander) (f : Byte) :
    s.Moves (s.holdCarried f) :=
  .goOn s _ (goesOn_listener bystander ⟨rfl, rfl, rfl, rfl, id⟩ rfl
    fun takes => absurd takes (not_takesIn_of_bystander bystander))

/-- R8, R10: a frame after H0 that completes with a difference. -/
theorem conflictHeld_moves {s : State} {h : Handle} (master : s.line.state = .master h) (f : Byte) :
    s.Moves ((s.meetConflict h).holdCarried f) :=
  .trans (meetConflict_moves master) (holdCarried_moves rfl f)

theorem execH0Completes_completes (f : Byte) (s : State) : (execH0Completes f s).Completes s := by
  unfold execH0Completes
  split
  next h master _ =>
    split
    · exact (headerDriven_moves master f .h1).completes
    · exact (Moves.trans (loseArbitration_moves master) (readH0_moves rfl f)).completes
  next undecided _ => exact (readH0_moves undecided f).completes
  · exact (Moves.refl s).completes

/-- R117: the role taken is ADDRESSED, GATHERING or BYSTANDER. -/
theorem roleAtH1_cases (node target : Nibble) (kind : Option Kind) :
    roleAtH1 node target kind = .addressed ∨ roleAtH1 node target kind = .gathering
      ∨ roleAtH1 node target kind = .bystander := by
  unfold roleAtH1; split_ifs <;> simp

theorem takeRole_moves {s : State} (undecided : s.line.state = .listener .undecided) : s.Moves s.takeRole := by
  have becomes (l : LineEngine) (timers : s.line.SameTimers l) (r : Role) (state : l.state = .listener r)
      (after : (LineState.listener r).unbound = true) : s.Moves (s.withLine l) :=
    .unbound s l (engineTo_of_sameTimers timers (Or.inr ⟨_, r, undecided, state⟩))
      (by simp [undecided, LineState.unbound]) (by rw [state]; exact after) (not_takesIn_of_undecided undecided)
  unfold takeRole
  rcases roleAtH1_cases s.window.settings.node s.line.target s.line.kind with role | role | role <;> rw [role]
  · exact becomes _ ⟨rfl, rfl, rfl, rfl, id⟩ .addressed rfl rfl
  · exact becomes _ ⟨rfl, rfl, rfl, rfl, id⟩ .gathering rfl rfl
  · exact becomes _ ⟨rfl, rfl, rfl, rfl, id⟩ .bystander rfl rfl

theorem execH1Completes_completes (f : Byte) (s : State) : (execH1Completes f s).Completes s := by
  unfold execH1Completes
  split
  next h master _ =>
    split
    · exact (headerDriven_moves master f .h2).completes
    · exact (conflictHeld_moves master f).completes
  next bystander _ => exact (holdCarried_moves bystander f).completes
  next undecided _ =>
    exact (Moves.trans (headerRead_moves undecided (not_takesIn_of_undecided undecided) _ f _)
      (takeRole_moves (by simpa [headerRead_eq] using undecided))).completes
  · exact (Moves.refl s).completes

theorem execH2Completes_completes (f : Byte) (s : State) : (execH2Completes f s).Completes s := by
  unfold execH2Completes
  split
  next h master _ =>
    split
    · exact (headerDriven_moves master f .h3).completes
    · exact (conflictHeld_moves master f).completes
  next bystander _ => exact (holdCarried_moves bystander f).completes
  next addressed phase => exact (headerRead_moves addressed (not_takesIn_of_h2 phase) _ f _).completes
  next gathering phase => exact (headerRead_moves gathering (not_takesIn_of_h2 phase) _ f _).completes
  · exact (Moves.refl s).completes

/-! ### Admission and gathering -/

/-- R162: the offer selected is POSTED. -/
theorem selectOffer_posted {s : State} {o : Nibble} {m : Nat} {i : OfferIndex}
    (selected : s.selectOffer o m = some i) : (s.offerAt i).state = .posted := by
  rcases Option.or_eq_some_iff.mp selected with fits | ⟨-, fits⟩ <;>
  · have posted := List.find?_some fits
    simp only [Bool.and_eq_true, beq_iff_eq] at posted
    exact posted.1.1

/-- A new Line Engine of an addressed or gathering node that takes nothing in yet, read up to H3. -/
structure ReadsH3 (s : State) (l : LineEngine) : Prop where
  notTaking : ¬ s.takesIn
  timers : s.line.SameTimers l
  state : l.state = s.line.state
  phase : l.phase = .a

theorem readsH3 {s : State} (phase : s.line.phase = .h3) (fs : Frames) (f : Byte) :
    s.ReadsH3 (s.line.headerTo fs f .a) :=
  ⟨not_takesIn_of_h3 phase, s.line.headerTo_sameTimers fs f .a, by simp, rfl⟩

theorem ReadsH3.admission_moves {s : State} {l : LineEngine} (hl : s.ReadsH3 l)
    (addressed : s.line.state = .listener .addressed) : s.Moves (s.withLine l).admission := by
  obtain ⟨notTaking, timers, state, phase⟩ := hl
  have sameTimers (x : LineEngine) (tq : x.quietTimer = l.quietTimer) (tl : x.longQuietTimer = l.longQuietTimer)
      (tc : x.claimTimer = l.claimTimer) (th : x.holdOff = l.holdOff) (s1 : x.s1 = l.s1) (s2 : x.s2 = l.s2) :
      s.line.SameTimers x :=
    ⟨tq.trans timers.quietTimer, tl.trans timers.longQuietTimer, tc.trans timers.claimTimer,
      th.trans timers.holdOff, fun kept => by simpa [LineEngine.sumsKept, s1, s2] using timers.sums kept⟩
  have answers (a : Answer) (p : Path) : s.Moves ((s.withLine l).withAnswer a p) :=
    .goOn s _ (goesOn_listener addressed (sameTimers _ rfl rfl rfl rfl rfl rfl) state
      fun takes => absurd takes notTaking)
  unfold admission
  split_ifs
  · exact answers _ _
  · exact answers _ _
  split
  · exact answers _ _
  · unfold admitCollect
    split
    · exact answers _ _
    next i selected =>
      exact .serve s i _ (engineTo_of_sameTimers (sameTimers _ rfl rfl rfl rfl rfl rfl)
          (Or.inr ⟨_, _, addressed, rfl⟩)) (by simp [addressed, LineState.unbound])
        (selectOffer_posted (s := s.withLine l) selected) rfl notTaking
  · unfold admitData
    split_ifs with duplicate room
    · exact answers _ _
    · obtain ⟨place, cells⟩ := Bool.and_eq_true_iff.mp room
      refine .takeIn s { l with record := { l.record with answer := some .accept, path := .new } }
        (engineTo_of_sameTimers (sameTimers _ rfl rfl rfl rfl rfl rfl) (Or.inr ⟨_, _, addressed, state.trans addressed⟩))
        (Or.inl addressed) state notTaking
        (Or.inl ⟨state.trans addressed, rfl, rfl, Or.inl (by simp [phase, intakePhase])⟩) ?_ cells
      have below : s.occupancy < if l.urgentFlag = true then 12 else 10 := of_decide_eq_true place
      simp only [addressed, and_true]
      exact below
    · exact (answers .busy .none).withStats _
  all_goals exact .goOn s l (goesOn_listener addressed timers state fun takes => absurd takes notTaking)

theorem discardIntake_withLine (s : State) (l : LineEngine) :
    (s.withLine l).discardIntake = s.discardIntake.withLine l := by
  unfold discardIntake
  rw [withLine_recv]
  cases s.recv.intake <;> rfl

theorem ReadsH3.gather_moves {s : State} {l : LineEngine} (hl : s.ReadsH3 l)
    (gathering : s.line.state = .listener .gathering) : s.Moves (s.withLine l).gather := by
  obtain ⟨notTaking, timers, state, phase⟩ := hl
  have unboundNow : s.line.state.unbound = true := by simp [gathering, LineState.unbound]
  have bystander : s.EngineTo l.bystander :=
    engineTo_of_sameTimers ⟨timers.quietTimer, timers.longQuietTimer, timers.claimTimer, timers.holdOff, timers.sums⟩
      (Or.inr ⟨_, _, gathering, rfl⟩)
  have gathers : l.state = .listener .gathering := state.trans gathering
  unfold gather
  split_ifs with malformed missed
  · exact .unbound s l.bystander bystander unboundNow rfl notTaking
  · have m := ((Moves.discardIntake s l.bystander bystander ⟨_, gathering⟩ (Or.inr ⟨unboundNow, rfl⟩)).withStats
        { s.window.stats with broadcastsMissed := countUp s.window.stats.broadcastsMissed }).withEvents
        { s.events with broadcastMissed := true }
    rw [missBroadcast, discardIntake_withLine]
    exact m
  · simp only [Bool.or_eq_true, decide_eq_true_eq, Bool.not_eq_true', not_or] at missed
    obtain ⟨⟨-, place⟩, cells⟩ := missed
    refine .takeIn s l (engineTo_of_sameTimers timers (Or.inr ⟨_, _, gathering, gathers⟩)) (Or.inr gathering) state
      notTaking (Or.inr ⟨gathers, by simp [phase, intakePhase]⟩) ?_ (Bool.of_not_eq_false cells)
    have below : s.occupancy < 10 := Nat.lt_of_not_le place
    simpa [gathering] using below

theorem execH3Completes_completes (f : Byte) (s : State) : (execH3Completes f s).Completes s := by
  unfold execH3Completes
  split
  next h master _ =>
    split
    · exact (headerDriven_moves master f .a).completes
    · exact (conflictHeld_moves master f).completes
  next bystander _ => exact (holdCarried_moves bystander f).completes
  next addressed phase => exact ((readsH3 phase _ f).admission_moves addressed).completes
  next gathering phase => exact ((readsH3 phase _ f).gather_moves gathering).completes
  · exact (Moves.refl s).completes

/-! ### A and L -/

theorem endConsumed_moves {s : State} {h : Handle} (master : s.line.state = .master h) (r : Reason) (low : Bool) :
    s.Moves (s.endConsumed h r low) := by
  rw [endConsumed, releaseLine_eq, consume_line]
  exact .consume s h r _ (engineTo_released master low) master (released_unbound _ low)

theorem endSettled_moves {s : State} {h : Handle} (master : s.line.state = .master h) (o : SendOutcome) (low : Bool) :
    s.Moves (s.endSettled h o low) := by
  rw [endSettled, releaseLine_eq, settle_line]
  exact .settle s h o _ (engineTo_released master low) master (released_unbound _ low)

theorem toPhase_moves_of_master {s : State} {h : Handle} (master : s.line.state = .master h) (p : Phase) :
    s.Moves (s.toPhase p) :=
  .goOn s _ (goesOn_master master ⟨rfl, rfl, rfl, rfl, id⟩ rfl rfl rfl rfl)

/-- A SERVING node takes nothing in. -/
theorem not_takesIn_of_serving {s : State} {i : OfferIndex} (serving : s.line.state = .listener (.serving i)) :
    ¬ s.takesIn := not_takesIn_of_state (by simp [serving]) (by simp [serving])

/-- The phase moves on while a listener goes on taking in what it takes in. -/
theorem toPhase_moves_of_intakePhase {s : State} {r : Role} (listens : s.line.state = .listener r) {p : Phase}
    (phase : intakePhase p = true) : s.Moves (s.toPhase p) :=
  .goOn s _ (goesOn_listener listens ⟨rfl, rfl, rfl, rfl, id⟩ rfl (takesIn_of_intakePhase rfl rfl phase))

theorem toPhase_moves_of_notTaking {s : State} {r : Role} (listens : s.line.state = .listener r)
    (notTaking : ¬ s.takesIn) (p : Phase) : s.Moves (s.toPhase p) :=
  .goOn s _ (goesOn_listener listens ⟨rfl, rfl, rfl, rfl, id⟩ rfl fun takes => absurd takes notTaking)

/-- A listener that takes nothing in becomes a BYSTANDER. -/
theorem becomeBystander_moves {s : State} (addressed : s.line.state = .listener .addressed)
    (notTaking : ¬ s.takesIn) : s.Moves s.becomeBystander :=
  .unbound s _ (engineTo_bystander addressed) (by simp [addressed, LineState.unbound]) rfl notTaking

theorem targetWithdraws_moves {s : State} (addressed : s.line.state = .listener .addressed) :
    s.Moves s.targetWithdraws := by
  rw [targetWithdraws, becomeBystander_eq, discardIntake_line]
  exact .discardIntake s _ (engineTo_bystander addressed) ⟨_, addressed⟩
    (Or.inr ⟨by simp [addressed, LineState.unbound], rfl⟩)

theorem serverWithdraws_moves {s : State} {i : OfferIndex} (serving : s.line.state = .listener (.serving i)) :
    s.Moves (s.serverWithdraws i) := by
  rw [serverWithdraws, becomeBystander_eq, returnOffer_line]
  exact .returnOffer s i _ (engineTo_bystander serving) serving rfl

theorem serverWithdrawsAt_moves {s : State} {i : OfferIndex} (serving : s.line.state = .listener (.serving i))
    (driven : Byte) : s.Moves (s.serverWithdrawsAt i driven) :=
  .trans (.goOn s (s.line.addFrame driven) (goesOn_listener serving
      ⟨rfl, rfl, rfl, rfl, fun _ => s.line.addFrame_sumsKept driven⟩ rfl
      fun takes => absurd takes (not_takesIn_of_serving serving)))
    (serverWithdraws_moves (by simpa using serving))

theorem answerRead_moves {s : State} {h : Handle} (master : s.line.state = .master h) (k : Kind) (f : Byte)
    (low : Bool) : s.Moves (s.answerRead h k f low) := by
  unfold answerRead
  split
  · split <;> exact toPhase_moves_of_master master _
  · exact endConsumed_moves master _ low
  · exact endConsumed_moves master _ low
  · exact endConsumed_moves master _ low
  · exact endSettled_moves master _ low
  · exact endSettled_moves master _ low

theorem answerDriven_moves {s : State} (addressed : s.line.state = .listener .addressed) (f : Byte) :
    s.Moves (s.answerDriven f) := by
  unfold answerDriven
  split
  · exact .refl s
  next a answer =>
    split_ifs with same accept
    · exact toPhase_moves_of_intakePhase addressed (payloadPhase_takes s.line)
    · refine becomeBystander_moves addressed fun takes => accept ?_
      obtain ⟨accepted, -⟩ := (takesIn_of_addressed addressed).mp takes
      exact Option.some.inj (answer.symm.trans accepted)
    · exact targetWithdraws_moves addressed

theorem execACompletes_completes (f : Byte) (low : Bool) (s : State) : (execACompletes f low s).Completes s := by
  unfold execACompletes
  split
  next h master _ =>
    split
    · exact (toPhase_moves_of_master master _).completes
    · exact (answerRead_moves master _ f low).completes
    · exact (Moves.refl s).completes
  next addressed _ => exact (answerDriven_moves addressed f).completes
  next gathering _ => exact (toPhase_moves_of_intakePhase gathering (payloadPhase_takes s.line)).completes
  next i serving _ =>
    split
    · exact (toPhase_moves_of_notTaking serving (not_takesIn_of_serving serving) _).completes
    · exact (serverWithdraws_moves serving).completes
  · exact (Moves.refl s).completes

/-- R93: a collector that takes L within its maximum. -/
theorem takeL_moves_of_master {s : State} {h : Handle} (master : s.line.state = .master h) (f : Byte)
    (within : f.toNat ≤ (s.entry h).length) : s.Moves (s.takeL f) := by
  refine .goOn s _ ⟨rfl, engineTo_of_sameTimers ⟨rfl, rfl, rfl, rfl, fun _ => LineEngine.addFrame_sumsKept _ f⟩
      (Or.inl ⟨h, master, master⟩), fun _ takes => absurd takes (not_takesIn_of_state (by simp [master]) (by simp [master])),
    fun _ _ => rfl, fun g same collect _ => ?_⟩
  cases master.symm.trans same
  have count (l : LineEngine) (kind : l.kind = some .collect) (held : l.frames.l = some f) :
      l.payloadCount ≤ (s.entry h).length := by
    rw [payloadCount_of_collect l kind, held]
    exact within
  exact count _ collect rfl

theorem takeL_moves_of_serving {s : State} {i : OfferIndex} (serving : s.line.state = .listener (.serving i))
    (f : Byte) : s.Moves (s.takeL f) :=
  .goOn s _ (goesOn_listener serving ⟨rfl, rfl, rfl, rfl, fun _ => LineEngine.addFrame_sumsKept _ f⟩ rfl
    fun takes => absurd takes (not_takesIn_of_serving serving))

theorem execLCompletes_completes (f : Byte) (low : Bool) (s : State) : (execLCompletes f low s).Completes s := by
  unfold execLCompletes
  split
  next h master _ =>
    split
    next within => exact (takeL_moves_of_master master f within).completes
    · exact (endConsumed_moves master _ low).completes
  next i serving _ =>
    split
    · exact (takeL_moves_of_serving serving f).completes
    · exact (serverWithdrawsAt_moves serving _).completes
  · exact (Moves.refl s).completes

/-! ### The payload, C0 and C1 -/

theorem advance_moves_of_master {s : State} {h : Handle} (master : s.line.state = .master h) (f : Byte) (p : Phase) :
    s.Moves (s.advance (some f) p) :=
  .goOn s _ (goesOn_master master ⟨rfl, rfl, rfl, rfl, fun _ => s.line.addFrame_sumsKept f⟩ rfl rfl rfl rfl)

theorem advance_moves_of_listener {s : State} {r : Role} (listens : s.line.state = .listener r) (f : Byte) {p : Phase}
    (phase : intakePhase p = true) : s.Moves (s.advance (some f) p) :=
  .goOn s _ (goesOn_listener listens ⟨rfl, rfl, rfl, rfl, fun _ => s.line.addFrame_sumsKept f⟩ rfl
    (takesIn_of_intakePhase rfl rfl phase))

theorem writeIntake_moves (s : State) (k : Nat) (f : Byte) : s.Moves (s.writeIntake k f) := by
  unfold writeIntake
  split
  · exact .refl s
  · exact .write s _ _ _

theorem storePayload_moves (s : State) (k : Nat) (f : Byte) : s.Moves (s.storePayload k f) := by
  unfold storePayload
  split
  · exact s.writeIntake_moves k f
  · exact .refl s

@[simp] theorem storePayload_line (s : State) (k : Nat) (f : Byte) : (s.storePayload k f).line = s.line := by
  unfold storePayload; split <;> simp

theorem execPayloadFrameCompletes_completes (f g : Byte) (s : State) :
    (execPayloadFrameCompletes f g s).Completes s := by
  unfold execPayloadFrameCompletes
  split
  next h k master _ =>
    split_ifs
    · exact (Moves.trans (.write s _ _ _) (advance_moves_of_master (by simpa [writeReply] using master) g _)).completes
    · exact (advance_moves_of_master master f _).completes
    · exact (conflictHeld_moves master f).completes
  next k addressed _ =>
    exact (Moves.trans (s.storePayload_moves k f)
      (advance_moves_of_listener (by simpa using addressed) f (afterPayload_takes s.line k))).completes
  next k gathering _ =>
    exact (Moves.trans (s.writeIntake_moves k f)
      (advance_moves_of_listener (by simpa using gathering) f (afterPayload_takes s.line k))).completes
  next i k serving _ =>
    split
    · exact (advance_moves_of_listener serving g (afterPayload_takes s.line k)).completes
    · exact (serverWithdrawsAt_moves serving _).completes
  next k bystander _ => exact (holdCarried_moves bystander f).completes
  · exact (Moves.refl s).completes

theorem holdC0_moves_of_master {s : State} {h : Handle} (master : s.line.state = .master h) (f : Byte) :
    s.Moves (s.holdC0 f) :=
  .goOn s _ (goesOn_master master ⟨rfl, rfl, rfl, rfl, id⟩ rfl rfl rfl rfl)

theorem holdC0_moves_of_listener {s : State} {r : Role} (listens : s.line.state = .listener r) (f : Byte) :
    s.Moves (s.holdC0 f) :=
  .goOn s _ (goesOn_listener listens ⟨rfl, rfl, rfl, rfl, id⟩ rfl (takesIn_of_intakePhase rfl rfl rfl))

theorem execC0Completes_completes (f g : Byte) (s : State) : (execC0Completes f g s).Completes s := by
  unfold execC0Completes
  split
  next h master _ =>
    split_ifs
    · exact (holdC0_moves_of_master master g).completes
    · exact (holdC0_moves_of_master master f).completes
    · exact (conflictHeld_moves master f).completes
  next addressed _ => exact (holdC0_moves_of_listener addressed f).completes
  next gathering _ => exact (holdC0_moves_of_listener gathering f).completes
  next i serving _ =>
    split
    · exact (holdC0_moves_of_listener serving g).completes
    · exact (serverWithdraws_moves serving).completes
  next bystander _ => exact (holdCarried_moves bystander f).completes
  · exact (Moves.refl s).completes

/-- R129, R130: a target on the new path whose check word passes goes on holding its intake, and CHECK discards it. -/
theorem targetVerdict_moves {s : State} (addressed : s.line.state = .listener .addressed) (f : Byte) :
    s.Moves (s.targetVerdict f) := by
  unfold targetVerdict
  split
  · refine .goOn s _ (goesOn_listener addressed ⟨rfl, rfl, rfl, rfl, id⟩ rfl fun takes => ?_)
    obtain ⟨answer, path, -⟩ := (takesIn_of_addressed addressed).mp takes
    exact Or.inl ⟨addressed, answer, path, Or.inr ⟨rfl, by simp [path, verdictFor]⟩⟩
  · simp only [decideVerdict, discardIntake_line]
    exact .discardIntake s _ (engineTo_of_sameTimers ⟨rfl, rfl, rfl, rfl, id⟩ (Or.inr ⟨_, _, addressed, addressed⟩))
      ⟨_, addressed⟩ (Or.inl rfl)

theorem gatherVerdict_moves {s : State} (gathering : s.line.state = .listener .gathering) (f : Byte) :
    s.Moves (s.gatherVerdict f) := by
  unfold gatherVerdict
  split
  · simp only [toPhase, commitIntake_line]
    exact .commitIntake s .broadcast _
      (engineTo_of_sameTimers ⟨rfl, rfl, rfl, rfl, id⟩ (Or.inr ⟨_, _, gathering, gathering⟩))
      (Or.inr ⟨gathering, rfl⟩) rfl
  · have m := ((Moves.discardIntake s _ (engineTo_bystander gathering) ⟨_, gathering⟩
      (Or.inr ⟨by simp [gathering, LineState.unbound], rfl⟩)).withStats
        { s.window.stats with broadcastsMissed := countUp s.window.stats.broadcastsMissed }).withEvents
        { s.events with broadcastMissed := true }
    rw [becomeBystander_eq, missBroadcast_line]
    exact m

theorem conflictWith_moves {s : State} {h : Handle} (master : s.line.state = .master h) (f : Byte) (low : Bool) :
    s.Moves (s.conflictWith h f low) := by
  unfold conflictWith
  split
  · exact conflictHeld_moves master f
  · exact .trans (conflictHeld_moves master f) (seeRelease_moves _)

theorem execC1Completes_completes (f g : Byte) (low : Bool) (s : State) : (execC1Completes f g low s).Completes s := by
  unfold execC1Completes
  split
  next h master _ =>
    have decides (v : Verdict) : s.Moves (s.decideVerdict v) :=
      .goOn s _ (goesOn_master master ⟨rfl, rfl, rfl, rfl, id⟩ rfl rfl rfl rfl)
    split_ifs
    · exact (decides _).completes
    · exact (decides _).completes
    · exact (endSettled_moves master .sent low).completes
    · exact (toPhase_moves_of_master master .v).completes
    · exact (conflictWith_moves master f low).completes
  next addressed _ => exact (targetVerdict_moves addressed f).completes
  next gathering _ => exact (gatherVerdict_moves gathering f).completes
  next i serving _ =>
    split
    · exact (toPhase_moves_of_notTaking serving (not_takesIn_of_serving serving) .v).completes
    · exact (serverWithdraws_moves serving).completes
  next bystander _ => exact (holdCarried_moves bystander f).completes
  · exact (Moves.refl s).completes

/-! ### V -/

theorem verdictRead_moves {s : State} {h : Handle} (master : s.line.state = .master h) (f : Byte) (low : Bool) :
    s.Moves (s.verdictRead h f low) := by
  unfold verdictRead
  split
  · exact endSettled_moves master _ low
  · exact endSettled_moves master _ low
  · exact endConsumed_moves master _ low
  · exact endConsumed_moves master _ low

@[simp] theorem collected_line (s : State) (h : Handle) : (s.collected h).line = s.line := by simp [collected]

theorem collectorEnds_moves {s : State} {h : Handle} (master : s.line.state = .master h)
    (collect : s.line.kind = some .collect) (low : Bool) : s.Moves (s.collectorEnds h low) := by
  unfold collectorEnds
  split
  · rw [releaseLine_eq, collected_line]
    exact .collected s h _ (engineTo_released master low) master collect (released_unbound _ low)
  · exact endConsumed_moves master _ low

/-- R131 to R133: on the new path the intake is committed; on the other paths nothing is taken in. -/
theorem verdictStands_moves {s : State} (addressed : s.line.state = .listener .addressed) :
    s.Moves (s.verdictStands.toPhase .complete) := by
  have completes : s.EngineTo { s.line with phase := .complete } :=
    engineTo_of_sameTimers ⟨rfl, rfl, rfl, rfl, id⟩ (Or.inr ⟨_, _, addressed, addressed⟩)
  have notNew (path : s.line.record.path ≠ .new) : ¬ s.takesIn := fun takes =>
    path ((takesIn_of_addressed addressed).mp takes).2.1
  unfold verdictStands
  split
  next new =>
    have m := (Moves.commitIntake s .data _ completes (Or.inl ⟨addressed, rfl⟩) rfl).withSource s.line.origin
      { (s.commitIntake .data).source s.line.origin with seen := true, lastTag := s.line.tag }
    have same : ((s.commitIntake .data).noteSource s.line.origin s.line.tag).toPhase .complete
        = ((s.commitIntake .data).withLine { s.line with phase := .complete }).withSource s.line.origin
          { (s.commitIntake .data).source s.line.origin with seen := true, lastTag := s.line.tag } := by
      simp only [toPhase, noteSource, withSource_line, commitIntake_line]
      unfold withSource; split <;> rfl
    rw [same]
    exact m
  next duplicate =>
    have m := (toPhase_moves_of_notTaking addressed (notNew (by simp [duplicate])) .complete).withSource s.line.origin
      { s.source s.line.origin with duplicates := countUp (s.source s.line.origin).duplicates }
    have same : (s.countDuplicate s.line.origin).toPhase .complete = (s.toPhase .complete).withSource s.line.origin
        { s.source s.line.origin with duplicates := countUp (s.source s.line.origin).duplicates } := by
      simp only [toPhase, countDuplicate, withSource_line]
      unfold withSource; split <;> rfl
    rw [same]
    exact m
  next probe => exact toPhase_moves_of_notTaking addressed (notNew (by simp [probe])) .complete
  next none => exact toPhase_moves_of_notTaking addressed (notNew (by simp [none])) .complete

theorem verdictDriven_moves {s : State} (addressed : s.line.state = .listener .addressed) (phase : s.line.phase = .v)
    (f : Byte) : s.Moves (s.verdictDriven f) := by
  unfold verdictDriven
  split
  · exact .refl s
  next check =>
    refine becomeBystander_moves addressed fun takes => ?_
    obtain ⟨-, -, intake⟩ := (takesIn_of_addressed addressed).mp takes
    simp [phase, check, intakePhase] at intake
  · split
    · exact verdictStands_moves addressed
    · exact targetWithdraws_moves addressed

theorem serverVerdict_moves {s : State} {i : OfferIndex} (serving : s.line.state = .listener (.serving i)) (f : Byte) :
    s.Moves (s.serverVerdict i f) := by
  unfold serverVerdict
  split
  · rw [becomeBystander_eq, giveOffer_line]
    exact .giveOffer s i _ _ (engineTo_bystander serving) serving rfl
  · exact serverWithdraws_moves serving

theorem execVCompletes_completes (f g : Byte) (low : Bool) (s : State) : (execVCompletes f g low s).Completes s := by
  unfold execVCompletes
  split
  next h master _ =>
    split_ifs with collect
    · exact (collectorEnds_moves master collect low).completes
    · exact (conflictWith_moves master f low).completes
    · exact (verdictRead_moves master g low).completes
  next addressed phase => exact (verdictDriven_moves addressed phase g).completes
  next i serving _ => exact (serverVerdict_moves serving f).completes
  next bystander _ => exact (holdCarried_moves bystander f).completes
  · exact (Moves.refl s).completes

end State

/-! ### The commands together -/

/-- Every well-formed command completes, and what it does is made of moves. -/
theorem exec_completes (c : Instr) (s : State) (wellFormed : c.wellFormed = true) : Res.Completes (exec c s) s := by
  cases c with
  | powerOn => exact s.execPowerOn_completes
  | configure => exact s.execConfigure_completes
  | lineOn low => exact s.execLineOn_completes low
  | lineOff => exact s.execLineOff_completes
  | softReset => exact s.execSoftReset_completes
  | openSend => exact s.execOpenSend_completes
  | post => exact s.execPost_completes
  | cancel => exact s.execCancel_completes
  | halt => exact s.execHalt_completes
  | go => exact s.execGo_completes
  | resume => exact s.execResume_completes
  | discard => exact s.execDiscard_completes
  | take => exact s.execTake_completes
  | takeReport => exact s.execTakeReport_completes
  | openOffer => exact s.execOpenOffer_completes
  | postOffer => exact s.execPostOffer_completes
  | withdraw => exact s.execWithdraw_completes
  | clearOffer => exact s.execClearOffer_completes
  | clearStatistics => exact s.execClearStatistics_completes
  | unknownCommand code => exact s.execUnknownCommand_completes (by simpa [Instr.wellFormed] using wellFormed)
  | fillData v => exact s.execFillData_completes v
  | drainData => exact s.execDrainData_completes
  | eventsWrite v => exact ((State.Moves.refl s).withEvents _).completes
  | enablesWrite v => exact ((State.Moves.refl s).withEvents _).completes
  | registerWrite r v => exact s.execRegisterWrite_completes r v
  | lclSeenGoingLow => exact s.execLclSeenGoingLow_completes
  | lclSeenReleased => exact s.seeRelease_moves.completes
  | quietTimerExpires => exact s.quietExpiry_moves.completes
  | longQuietTimerExpires => exact s.longQuietExpiry_moves.completes
  | claimLimitTimerExpires => exact s.claimLimitExpiry_moves.completes
  | backoffTimerExpires h => exact (s.backoffExpiry_moves h).completes
  | lostArbitration low => exact s.execLostArbitration_completes low
  | conflict low => exact s.execConflict_completes low
  | h0Completes f => exact s.execH0Completes_completes f
  | h1Completes f => exact s.execH1Completes_completes f
  | h2Completes f => exact s.execH2Completes_completes f
  | h3Completes f => exact s.execH3Completes_completes f
  | aCompletes f low => exact s.execACompletes_completes f low
  | lCompletes f low => exact s.execLCompletes_completes f low
  | payloadFrameCompletes f g => exact s.execPayloadFrameCompletes_completes f g
  | c0Completes f g => exact s.execC0Completes_completes f g
  | c1Completes f g low => exact s.execC1Completes_completes f g low
  | vCompletes f g low => exact s.execVCompletes_completes f g low

/-- A term that is no command of its row is refused (log 13). -/
theorem exec_of_not_wellFormed (c : Instr) (s : State) (h : c.wellFormed = false) :
    exec c s = .refused .notAnUnknownCommand := by
  cases c with
  | unknownCommand code =>
    have named : namesCommand code = true := by simpa [Instr.wellFormed] using h
    exact if_pos named
  | _ => cases h

/-- Whatever command is answered with a next state, that state is reached by moves. -/
theorem exec_moves {c : Instr} {s t : State} (ht : exec c s = .next t) : s.Moves t := by
  cases wellFormed : c.wellFormed with
  | true =>
    obtain ⟨u, hu, moves⟩ := exec_completes c s wellFormed
    cases hu.symm.trans ht
    exact moves
  | false => cases (exec_of_not_wellFormed c s wellFormed).symm.trans ht

namespace State

theorem expire_moves (s : State) (e : Expiry) : s.Moves (s.expire e) := by
  cases e with
  | quiet => exact s.quietExpiry_moves
  | longQuiet => exact s.longQuietExpiry_moves
  | claimLimit => exact s.claimLimitExpiry_moves
  | backoff h => exact s.backoffExpiry_moves h

/-- On an empty queue the part moves too, from the state or from the state with the free values' counter advanced. -/
theorem idle_moves (s : State) : ∃ s' : State, s.SameBlocks s' ∧ s'.Moves s.idle := by
  unfold idle
  split
  · exact ⟨s, ⟨rfl, rfl, rfl, rfl, rfl, rfl, rfl, rfl, rfl, rfl⟩, .bitPeriod s⟩
  · exact ⟨s, ⟨rfl, rfl, rfl, rfl, rfl, rfl, rfl, rfl, rfl, rfl⟩, s.expire_moves _⟩
  · exact ⟨{ s with expiryCount := s.expiryCount + 1 }, ⟨rfl, rfl, rfl, rfl, rfl, rfl, rfl, rfl, rfl, rfl⟩,
      expire_moves _ _⟩

end State

/-- A step takes the front command off the queue, or advances the counter, and then moves. -/
theorem step_moves {s t : State} (ht : step s = .next t) : ∃ s' : State, s.SameBlocks s' ∧ s'.Moves t := by
  unfold step at ht
  split at ht
  · cases ht
    exact s.idle_moves
  next c rest _ =>
    exact ⟨{ s with pending := rest }, ⟨rfl, rfl, rfl, rfl, rfl, rfl, rfl, rfl, rfl, rfl⟩, exec_moves ht⟩

end Sys2Proof.Machine

/-! SUPPORT. What a move leaves as it was, and the invariants of the memory's form, of the configuration store and of
the Line Engine. -/

namespace Sys2Proof.Machine
namespace State

/-! ### What the moves of several entries leave -/

/-- R111: what every finish leaves, the finishes of DISCARD leave. -/
theorem foldl_finish_eq {α : Type} (f : State → α) (keeps : ∀ s h o, f (State.finish s h o) = f s) (o : SendOutcome)
    (hs : List Handle) (s : State) : f (hs.foldl (fun t h => t.finish h o) s) = f s := by
  induction hs generalizing s with
  | nil => rfl
  | cons h hs ih => exact (ih _).trans (keeps s h o)

@[simp] theorem discardDest_line (s : State) (d : Nibble) : (s.discardDest d).line = s.line :=
  foldl_finish_eq State.line (by simp) _ _ s
@[simp] theorem discardDest_pool_mem (s : State) (d : Nibble) : (s.discardDest d).pool.mem = s.pool.mem :=
  foldl_finish_eq (fun t => t.pool.mem) (by simp) _ _ s
@[simp] theorem discardDest_recv (s : State) (d : Nibble) : (s.discardDest d).recv = s.recv :=
  foldl_finish_eq State.recv (by simp) _ _ s
@[simp] theorem discardDest_offers (s : State) (d : Nibble) : (s.discardDest d).offers = s.offers :=
  foldl_finish_eq State.offers (by simp) _ _ s
@[simp] theorem discardDest_window (s : State) (d : Nibble) : (s.discardDest d).window = s.window :=
  foldl_finish_eq State.window (by simp) _ _ s
@[simp] theorem discardDest_events (s : State) (d : Nibble) : (s.discardDest d).events = s.events :=
  foldl_finish_eq State.events (by simp) _ _ s
@[simp] theorem discardDest_pending (s : State) (d : Nibble) : (s.discardDest d).pending = s.pending :=
  foldl_finish_eq State.pending (by simp) _ _ s
@[simp] theorem discardDest_expiryCount (s : State) (d : Nibble) : (s.discardDest d).expiryCount = s.expiryCount :=
  foldl_finish_eq State.expiryCount (by simp) _ _ s

@[simp] theorem collected_pool_mem (s : State) (h : Handle) : (s.collected h).pool.mem = s.pool.mem := by
  simp [collected]
@[simp] theorem collected_offers (s : State) (h : Handle) : (s.collected h).offers = s.offers := by
  simp [collected]
@[simp] theorem collected_window (s : State) (h : Handle) : (s.collected h).window = s.window := by
  simp [collected]
@[simp] theorem collected_pending (s : State) (h : Handle) : (s.collected h).pending = s.pending := by
  simp [collected]
@[simp] theorem collected_expiryCount (s : State) (h : Handle) : (s.collected h).expiryCount = s.expiryCount := by
  simp [collected]

@[simp] theorem takeHeadReport_line (s : State) (rest : List Report) : (s.takeHeadReport rest).line = s.line := by
  unfold takeHeadReport; split <;> rfl
@[simp] theorem takeHeadReport_offers (s : State) (rest : List Report) : (s.takeHeadReport rest).offers = s.offers := by
  unfold takeHeadReport; split <;> rfl
@[simp] theorem takeHeadReport_window (s : State) (rest : List Report) : (s.takeHeadReport rest).window = s.window := by
  unfold takeHeadReport; split <;> rfl
@[simp] theorem takeHeadReport_pending (s : State) (rest : List Report) :
    (s.takeHeadReport rest).pending = s.pending := by
  unfold takeHeadReport; split <;> rfl
@[simp] theorem takeHeadReport_expiryCount (s : State) (rest : List Report) :
    (s.takeHeadReport rest).expiryCount = s.expiryCount := by
  unfold takeHeadReport; split <;> rfl

/-! ### The model's own fields -/

/-- No move touches the queue of commands or the free values' counter. -/
theorem Moves.keeps_own {s t : State} (m : s.Moves t) : t.pending = s.pending ∧ t.expiryCount = s.expiryCount := by
  induction m with
  | same _ pending count => exact ⟨pending, count⟩
  | trans _ _ first second => exact ⟨second.1.trans first.1, second.2.trans first.2⟩
  | powerOn | softReset | store | openSend | post | dropStaging | halted | resume | takeHead | openOffer | postOffer
  | bitPeriod => exact ⟨rfl, rfl⟩
  | _ => simp

end State

/-- Settles O3: a well-formed command completes by moves, and no move touches the model's own fields. -/
theorem everyWellFormedCommandCompletes : Obligations.EveryWellFormedCommandCompletes := by
  unfold Obligations.EveryWellFormedCommandCompletes
  refine ⟨fun c s wellFormed => ?_, exec_of_not_wellFormed⟩
  obtain ⟨t, ht, moves⟩ := exec_completes c s wellFormed
  exact ⟨t, ht, moves.keeps_own⟩

namespace State

/-! ### The canonical form of the memory -/

/-- Only an allocation and a byte written change the memory, and they keep its form. -/
theorem Moves.keeps_wf {s t : State} (m : s.Moves t) : s.pool.mem.wf = true → t.pool.mem.wf = true := by
  induction m with
  | same blocks => exact fun wf => by rwa [blocks.pool]
  | trans _ _ first second => exact fun wf => second (first wf)
  | powerOn => exact fun _ => rfl
  | softReset | store | post | dropStaging | halted | resume | takeHead | postOffer | bitPeriod => exact id
  | openSend s h n | openOffer s i n => exact s.pool.wf_allocate n _
  | write s cells k v => exact s.pool.wf_writeByte cells k v
  | takeIn s l => exact s.pool.wf_allocate l.lengthField _
  | _ => simp

/-! ### The configuration store -/

theorem SettingsKept.congr {s t : State} (hs : s.SettingsKept)
    (settings : t.window.settings = s.window.settings) : t.SettingsKept := by
  obtain ⟨node, divider, quiet, base, limit, reserve⟩ := hs
  constructor <;> simpa only [settings]

theorem settingsKept_reset : State.reset.SettingsKept := by constructor <;> decide

/-- R194: a value in the range of its item leaves the store in its ranges (TABLE 11-2). -/
theorem SettingsKept.store {s t : State} (hs : s.SettingsKept) {item value : Byte}
    (inRange : itemInRange item value = true) (settings : t.window.settings = s.window.settings.store item value) :
    t.SettingsKept := by
  obtain ⟨node, divider, quiet, base, limit, reserve⟩ := hs
  have small := value.isLt
  unfold itemInRange at inRange
  unfold Settings.store at settings
  split_ifs at inRange settings <;> simp only [decide_eq_true_eq] at inRange <;>
    constructor <;> simp only [settings, BitVec.toNat_setWidth] <;> omega

/-- Only CONFIGURE stores a setting, and only one in its range. -/
theorem Moves.keeps_settings {s t : State} (m : s.Moves t) : s.SettingsKept → t.SettingsKept := by
  induction m with
  | same blocks => exact fun hs => hs.congr blocks.settings
  | trans _ _ first second => exact fun hs => second (first hs)
  | powerOn => exact fun _ => settingsKept_reset.congr rfl
  | store s inRange => exact fun hs => hs.store inRange rfl
  | softReset | openSend | post | dropStaging | halted | resume | takeHead | openOffer | postOffer | bitPeriod =>
    exact fun hs => hs.congr rfl
  | _ => exact fun hs => hs.congr (by simp)

/-! ### The Line Engine -/

theorem engineKept_reset : State.reset.EngineKept := engineTo_reset State.reset
  ⟨by decide, by decide, by decide, by simp [reset, LineEngine.reset], by simp [reset, LineEngine.reset],
    fun _ => rfl, by decide⟩

/-- R7: the claim makes a master with hold-off clear; no timer of the Line Engine but the long-quiet timer, which is
stopped with hold-off clear, could have run in QUIET. -/
theorem EngineKept.claim {s : State} (hs : s.EngineKept) (h : Handle) (quiet : s.line.state = .quiet)
    (holdOff : s.line.holdOff = false) : (s.claim h).EngineKept := by
  obtain ⟨quietTimer, claimTimer, long, -, -, -, -⟩ := hs
  simp only [quiet, holdOff, claimTimerRuns] at quietTimer claimTimer long
  exact ⟨by simpa [State.claim] using quietTimer, by simpa [State.claim, claimTimerRuns] using claimTimer,
    by simpa [State.claim] using long, by simp [State.claim, holdOff], by simp [State.claim], by simp [State.claim],
    by simp [State.claim]⟩

/-- R36: time passes at the running timers alone. -/
theorem EngineKept.bitPeriod {s : State} (hs : s.EngineKept) : s.bitPeriod.EngineKept := by
  obtain ⟨quiet, claim, long, master, joining, off, sums⟩ := hs
  refine ⟨by simpa [State.bitPeriod] using quiet, ?_, by simpa [State.bitPeriod] using long, master, joining, ?_, sums⟩
  · rw [show s.bitPeriod.claimTimerRuns = s.claimTimerRuns from rfl]
    simpa [State.bitPeriod] using claim
  · intro state
    have reset := off state
    simp [State.bitPeriod, reset, LineEngine.reset]

theorem Moves.keeps_engine {s t : State} (m : s.Moves t) : s.EngineKept → t.EngineKept := by
  induction m with
  | same blocks => exact fun hs => hs.congr blocks.line
  | trans _ _ first second => exact fun hs => second (first hs)
  | powerOn | softReset => exact fun _ => engineKept_reset.congr rfl
  | claim s h quiet holdOff => exact fun hs => hs.claim h quiet holdOff
  | bitPeriod => exact fun hs => hs.bitPeriod
  | goOn s l on => exact on.engine
  | unbound s l engine => exact engine
  | discardIntake s l engine | takeIn s l engine | commitIntake s k l engine | serve s i l engine
  | returnOffer s i l engine | giveOffer s i o l engine | handBack s h l engine | consume s h r l engine
  | settle s h o l engine | collected s h l engine => exact fun hs => (engine hs).congr rfl
  | store | openSend | post | dropStaging | halted | resume | takeHead | openOffer | postOffer =>
    exact fun hs => hs.congr rfl
  | _ => exact fun hs => hs.congr (by simp)

end State

/-- Settles O51: every move keeps the memory's form. -/
theorem stepKeepsTheMemoryCanonical : Obligations.StepKeepsTheMemoryCanonical := by
  unfold Obligations.StepKeepsTheMemoryCanonical
  intro s t wf ht
  obtain ⟨s', same, moves⟩ := step_moves ht
  exact moves.keeps_wf (by rwa [same.pool])

/-- Settles O52: every move keeps the configuration store in its ranges. -/
theorem stepKeepsTheConfigurationInRange : Obligations.StepKeepsTheConfigurationInRange := by
  unfold Obligations.StepKeepsTheConfigurationInRange
  intro s t hs ht
  obtain ⟨s', same, moves⟩ := step_moves ht
  exact moves.keeps_settings (hs.congr same.settings)

/-- Settles O53: every move keeps the Line Engine in its rules. -/
theorem stepKeepsTheTimersInTheirStates : Obligations.StepKeepsTheTimersInTheirStates := by
  unfold Obligations.StepKeepsTheTimersInTheirStates
  intro s t hs ht
  obtain ⟨s', same, moves⟩ := step_moves ht
  exact moves.keeps_engine (hs.congr same.line)

end Sys2Proof.Machine

/-! SUPPORT. What each move makes of the send entries and the destinations, and the invariant of the Send Queue and the
Report List. -/

namespace Sys2Proof.Machine
namespace State

/-! ### Entries and destinations after each operation -/

theorem entry_suspend (s : State) (d : Nibble) (n : Byte) (g : Handle) :
    (s.suspend d n).entry g = holdEntry d (s.entry g) := by
  simp [entry, suspend]

theorem dest_suspend (s : State) (d c : Nibble) (n : Byte) :
    (s.suspend d n).dest c = if c = d then { s.dest d with suspended := true, suspendingPost := n } else s.dest c :=
  dest_withDest s d c _

theorem entry_resumeDest (s : State) (d : Nibble) (g : Handle) :
    (s.resumeDest d).entry g = resumeEntry d (s.entry g) := by
  simp [entry, resumeDest]

theorem dest_resumeDest (s : State) (d c : Nibble) :
    (s.resumeDest d).dest c = if c = d then { s.dest d with suspended := false } else s.dest c :=
  dest_withDest s d c _

theorem entry_bitPeriod (s : State) (g : Handle) : s.bitPeriod.entry g = (s.entry g).countDown := by
  simp [entry, bitPeriod]

theorem entry_claim (s : State) (h g : Handle) :
    (s.claim h).entry g = if g = h then { s.entry h with state := .inFlight } else s.entry g :=
  entry_withEntry s h g _

theorem entry_openSend (s : State) (h g : Handle) (n : Nat) :
    (s.openSend h n).entry g =
      if g = h then { s.entry h with state := .staging, length := n, cells := s.pool.lowest n } else s.entry g :=
  entry_withEntry (s.withPool _) h g _

theorem entry_postEntry (s : State) (h g : Handle) (k : Kind) :
    (s.postEntry h k).entry g = if g = h then s.postedEntry h k else s.entry g :=
  entry_withEntry s h g _

theorem dest_postEntry (s : State) (h : Handle) (k : Kind) (c : Nibble) :
    (s.postEntry h k).dest c = if c = s.postDest then s.postedDest k else s.dest c :=
  dest_withDest (s.withEntry h _) s.postDest c _

/-- POST leaves which destinations are suspended. -/
theorem suspended_postEntry (s : State) (h : Handle) (k : Kind) (c : Nibble) :
    ((s.postEntry h k).dest c).suspended = (s.dest c).suspended := by
  rw [dest_postEntry]
  split
  next same => subst same; unfold postedDest; split <;> rfl
  · rfl

theorem entry_dropStaging (s : State) (h g : Handle) :
    (s.dropStaging h).entry g = if g = h then .free else s.entry g :=
  entry_withEntry (s.withPool _) h g _

/-- R74: a finished entry is FREE while the Report List has room. -/
theorem finish_of_room (s : State) (h : Handle) (o : SendOutcome) (room : s.reports.records.length < 8) :
    s.finish h o = { (s.leaveQueue h).withEntry h .free with
      reports := { s.reports with records := s.reports.records ++ [s.reportOf h (some o)] } } := by
  unfold finish; rw [if_pos room]

/-- R177: a finished entry waits in FINISHED while the Report List holds 8. -/
theorem finish_of_full (s : State) (h : Handle) (o : SendOutcome) (full : ¬ s.reports.records.length < 8) :
    s.finish h o = { (s.leaveQueue h).withEntry h
        { s.entry h with state := .finished, cells := [], backoff := 0, outcome := some o } with
      reports := { s.reports with waiting := s.reports.waiting ++ [h] } } := by
  unfold finish; rw [if_neg full]

theorem entry_finish_of_room (s : State) (h : Handle) (o : SendOutcome) (room : s.reports.records.length < 8) :
    (s.finish h o).entry h = .free := by
  rw [s.finish_of_room h o room]
  exact (s.leaveQueue h).entry_withEntry_self h _

theorem entry_finish_of_full (s : State) (h : Handle) (o : SendOutcome) (full : ¬ s.reports.records.length < 8) :
    (s.finish h o).entry h = { s.entry h with state := .finished, cells := [], backoff := 0, outcome := some o } := by
  rw [s.finish_of_full h o full]
  exact (s.leaveQueue h).entry_withEntry_self h _

theorem reports_finish_of_room (s : State) (h : Handle) (o : SendOutcome) (room : s.reports.records.length < 8) :
    (s.finish h o).reports =
      { s.reports with records := s.reports.records ++ [s.reportOf h (some o)] } := by
  rw [s.finish_of_room h o room]

theorem reports_finish_of_full (s : State) (h : Handle) (o : SendOutcome) (full : ¬ s.reports.records.length < 8) :
    (s.finish h o).reports = { s.reports with waiting := s.reports.waiting ++ [h] } := by
  rw [s.finish_of_full h o full]

@[simp] theorem finish_queue_order (s : State) (h : Handle) (o : SendOutcome) :
    (s.finish h o).queue.order = s.queue.order.filter (· != h) := by
  unfold finish; split <;> rfl

/-- The finishes of DISCARD, one after another (R111). -/
def finishAll (s : State) (hs : List Handle) (o : SendOutcome) : State := hs.foldl (fun t h => t.finish h o) s

@[simp] theorem finishAll_nil (s : State) (o : SendOutcome) : s.finishAll [] o = s := rfl

@[simp] theorem finishAll_cons (s : State) (h : Handle) (hs : List Handle) (o : SendOutcome) :
    s.finishAll (h :: hs) o = (s.finish h o).finishAll hs o := rfl

theorem discardDest_eq (s : State) (d : Nibble) :
    s.discardDest d = (s.finishAll (s.heldTo d) .discarded).withDest d { s.dest d with suspended := false } := rfl

theorem entry_finishAll_of_notMem (s : State) {hs : List Handle} (o : SendOutcome) {g : Handle} (out : g ∉ hs) :
    (s.finishAll hs o).entry g = s.entry g := by
  induction hs generalizing s with
  | nil => rfl
  | cons h hs ih =>
    obtain ⟨ne, out⟩ := not_or.mp (List.mem_cons.not.mp out)
    rw [finishAll_cons, ih _ out, entry_finish_ne s o ne]

theorem entry_finishAll_of_mem (s : State) {hs : List Handle} (o : SendOutcome) (nodup : hs.Nodup) {g : Handle}
    (mem : g ∈ hs) : ((s.finishAll hs o).entry g).state = .free ∨ ((s.finishAll hs o).entry g).state = .finished := by
  induction hs generalizing s with
  | nil => cases mem
  | cons h hs ih =>
    obtain ⟨out, nodup⟩ := List.nodup_cons.mp nodup
    rw [finishAll_cons]
    rcases List.mem_cons.mp mem with rfl | mem
    · rw [entry_finishAll_of_notMem _ o out]
      exact s.entry_finish_self g o
    · exact ih _ nodup mem

@[simp] theorem dest_finishAll (s : State) (hs : List Handle) (o : SendOutcome) (d : Nibble) :
    (s.finishAll hs o).dest d = s.dest d :=
  foldl_finish_eq (fun t => t.dest d) (fun t h o => t.dest_finish h o d) o hs s

theorem mem_heldTo (s : State) (d : Nibble) (h : Handle) :
    h ∈ s.heldTo d ↔ h ∈ s.queue.order ∧ (s.entry h).state = .held ∧ (s.entry h).dest = d := by
  simp [heldTo]

theorem entry_discardDest_of_notMem (s : State) {d : Nibble} {g : Handle} (out : g ∉ s.heldTo d) :
    (s.discardDest d).entry g = s.entry g :=
  s.entry_finishAll_of_notMem .discarded out

/-- R111: each HELD entry to the destination has finished. -/
theorem entry_discardDest_of_mem {s : State} (nodup : s.queue.order.Nodup) {d : Nibble} {g : Handle}
    (mem : g ∈ s.heldTo d) :
    ((s.discardDest d).entry g).state = .free ∨ ((s.discardDest d).entry g).state = .finished :=
  s.entry_finishAll_of_mem .discarded (nodup.filter _) mem

/-- R178: an entry changes only as the oldest waiting one, and is then FREE. -/
theorem entry_takeHeadReport_cases (s : State) (rest : List Report) (g : Handle) :
    (s.takeHeadReport rest).entry g = s.entry g
      ∨ g ∈ s.reports.waiting ∧ (s.takeHeadReport rest).entry g = .free := by
  by_cases waits : g ∈ s.reports.waiting
  · cases waiting : s.reports.waiting with
    | nil => simp [waiting] at waits
    | cons h more =>
      rw [s.takeHeadReport_of_waiting_cons rest waiting]
      by_cases same : g = h
      · subst same
        exact Or.inr ⟨by simp, s.entry_withEntry_self g .free⟩
      · exact Or.inl (s.entry_withEntry_ne .free same)
  · exact Or.inl (s.entry_takeHeadReport_of_notMem rest waits)

/-- R96, R47: the REPLY is committed with the first cells of the entry's chain, and the entry keeps the others. -/
def replied (s : State) (h : Handle) : State :=
  (((s.withPool (s.pool.setOwner (s.replyCells h) .record)).withEntry h
    { s.entry h with cells := (s.entry h).cells.drop (cellsFor s.line.payloadCount) }).commit (s.replyRecord h))

theorem collected_eq (s : State) (h : Handle) : s.collected h = (s.replied h).settle h .collected := rfl

theorem entry_replied (s : State) (h g : Handle) :
    (s.replied h).entry g =
      if g = h then { s.entry h with cells := (s.entry h).cells.drop (cellsFor s.line.payloadCount) }
      else s.entry g :=
  entry_withEntry (s.withPool _) h g _

/-! ### The Send Queue and the Report List -/

/-- The rules of `QueueKept` that do not speak of the Line Engine. -/
structure ListsKept (s : State) : Prop where
  orderNodup : s.queue.order.Nodup
  orderMember : ∀ h, h ∈ s.queue.order ↔ (s.entry h).state.unfinished = true
  waitingNodup : s.reports.waiting.Nodup
  waitingMember : ∀ h, h ∈ s.reports.waiting ↔ (s.entry h).state = .finished
  room : s.reports.records.length ≤ 8
  full : s.reports.waiting ≠ [] → s.reports.records.length = 8
  free : ∀ h, (s.entry h).state = .free → s.entry h = .free

theorem QueueKept.lists {s : State} (hs : s.QueueKept) : s.ListsKept :=
  ⟨hs.orderNodup, hs.orderMember, hs.waitingNodup, hs.waitingMember, hs.room, hs.full, hs.free⟩

theorem ListsKept.queueKept {s : State} (hs : s.ListsKept)
    (flight : ∀ h, (s.entry h).state = .inFlight ↔ s.line.state = .master h) : s.QueueKept :=
  ⟨hs.orderNodup, hs.orderMember, flight, hs.waitingNodup, hs.waitingMember, hs.room, hs.full, hs.free⟩

/-- The lists are kept while each entry stays unfinished, FINISHED or FREE as it was. -/
theorem ListsKept.congr {s t : State} (hs : s.ListsKept) (order : t.queue.order = s.queue.order)
    (reports : t.reports = s.reports)
    (unfinished : ∀ h, (t.entry h).state.unfinished = (s.entry h).state.unfinished)
    (finished : ∀ h, (t.entry h).state = .finished ↔ (s.entry h).state = .finished)
    (free : ∀ h, (t.entry h).state = .free → t.entry h = .free) : t.ListsKept := by
  obtain ⟨orderNodup, orderMember, waitingNodup, waitingMember, room, full, -⟩ := hs
  exact ⟨by rwa [order], fun h => by rw [order, unfinished, orderMember], by rwa [reports],
    fun h => by rw [reports, finished, waitingMember], by rwa [reports], by rwa [reports], free⟩

/-- One entry changes, and stays unfinished. -/
theorem ListsKept.withEntry {s : State} (hs : s.ListsKept) {h : Handle} {e : SendEntry}
    (before : (s.entry h).state.unfinished = true) (after : e.state.unfinished = true) :
    (s.withEntry h e).ListsKept := by
  have live {x : EntryState} (hx : x.unfinished = true) : x ≠ .finished ∧ x ≠ .free := by
    constructor <;> rintro rfl <;> simp [EntryState.unfinished] at hx
  refine hs.congr rfl rfl (fun g => ?_) (fun g => ?_) (fun g => ?_) <;> rw [entry_withEntry] <;> split
  next same => rw [same, before, after]
  · rfl
  next same => simp [same, live before, live after]
  · rfl
  next => exact fun free => absurd free (live after).2
  · exact hs.free g

theorem ListsKept.of_queue {s t : State} (hs : s.ListsKept) (queue : t.queue = s.queue) (reports : t.reports = s.reports) :
    t.ListsKept :=
  hs.congr (by rw [queue]) reports (fun h => by rw [entry_congr queue]) (fun h => by rw [entry_congr queue])
    (fun h => by rw [entry_congr queue]; exact hs.free h)

/-- A finish: the entry leaves the order, and waits exactly while the Report List holds 8. -/
theorem ListsKept.finish {s : State} (hs : s.ListsKept) {h : Handle} (unfinished : (s.entry h).state.unfinished = true)
    (o : SendOutcome) : (s.finish h o).ListsKept := by
  obtain ⟨orderNodup, orderMember, waitingNodup, waitingMember, room, full, free⟩ := hs
  have notWaiting : h ∉ s.reports.waiting := by
    rw [waitingMember]; rintro finished; simp [finished, EntryState.unfinished] at unfinished
  have others {g : Handle} (ne : g ≠ h) := s.entry_finish_ne o ne
  have order (g : Handle) : g ∈ (s.finish h o).queue.order ↔ ((s.finish h o).entry g).state.unfinished = true := by
    rw [finish_queue_order, List.mem_filter, orderMember]
    by_cases same : g = h
    · subst same
      rcases s.entry_finish_self g o with e | e <;> simp [e, EntryState.unfinished]
    · simp [others same, same]
  have filtered : (s.finish h o).queue.order.Nodup := by simpa using orderNodup.filter _
  by_cases space : s.reports.records.length < 8
  · have freed := s.entry_finish_of_room h o space
    refine ⟨filtered, order, ?_, fun g => ?_, ?_, ?_, fun g => ?_⟩
    · rwa [s.reports_finish_of_room h o space]
    · rw [s.reports_finish_of_room h o space]
      by_cases same : g = h
      · simp [same, freed, notWaiting, SendEntry.free]
      · rw [others same]; exact waitingMember g
    · simpa [s.reports_finish_of_room h o space] using space
    · rw [s.reports_finish_of_room h o space]
      intro waiting
      have eight := full waiting
      omega
    · by_cases same : g = h
      · rw [same]; exact fun _ => freed
      · rw [others same]; exact free g
  · have finished := s.entry_finish_of_full h o space
    refine ⟨filtered, order, ?_, fun g => ?_, ?_, ?_, fun g => ?_⟩
    · rw [s.reports_finish_of_full h o space]
      exact List.nodup_append.mpr ⟨waitingNodup, by simp, by rintro a ha b hb rfl; simp_all⟩
    · rw [s.reports_finish_of_full h o space]
      by_cases same : g = h
      · simp [same, finished]
      · rw [others same]; simpa [same] using waitingMember g
    · rwa [s.reports_finish_of_full h o space]
    · rw [s.reports_finish_of_full h o space]
      intro _
      simp only
      omega
    · by_cases same : g = h
      · simp [same, finished]
      · rw [others same]; exact free g

theorem ListsKept.finishAll {s : State} (hs : s.ListsKept) {l : List Handle} (nodup : l.Nodup)
    (unfinished : ∀ h ∈ l, (s.entry h).state.unfinished = true) (o : SendOutcome) : (s.finishAll l o).ListsKept := by
  induction l generalizing s with
  | nil => exact hs
  | cons h l ih =>
    obtain ⟨out, nodup⟩ := List.nodup_cons.mp nodup
    refine ih (hs.finish (unfinished h (by simp)) o) nodup fun g mem => ?_
    have ne : g ≠ h := by rintro rfl; exact out mem
    rw [s.entry_finish_ne o ne]
    exact unfinished g (by simp [mem])

/-- R108 and R110 move unfinished entries among the unfinished states alone. -/
theorem holdEntry_state (d : Nibble) (e : SendEntry) :
    (holdEntry d e = e) ∨ (e.dest = d ∧ (e.state = .ready ∨ e.state = .backoff)
      ∧ holdEntry d e = { e with state := .held, backoff := 0 }) := by
  unfold holdEntry
  split
  next c => exact Or.inr ⟨c.1, c.2, rfl⟩
  · exact Or.inl rfl

theorem resumeEntry_state (d : Nibble) (e : SendEntry) :
    (resumeEntry d e = e ∧ ¬ (e.dest = d ∧ e.state = .held))
      ∨ (e.dest = d ∧ e.state = .held ∧ resumeEntry d e = { e with state := .ready, attempts := 0 }) := by
  unfold resumeEntry
  split
  next c => exact Or.inr ⟨c.1, c.2, rfl⟩
  next c => exact Or.inl ⟨rfl, c⟩

/-- Every entry changes among the unfinished states, or not at all. -/
theorem ListsKept.mapEntries {s t : State} (hs : s.ListsKept) (order : t.queue.order = s.queue.order)
    (reports : t.reports = s.reports)
    (entries : ∀ h, t.entry h = s.entry h
      ∨ (s.entry h).state.unfinished = true ∧ (t.entry h).state.unfinished = true) : t.ListsKept := by
  have live {x : EntryState} (hx : x.unfinished = true) : x ≠ .finished ∧ x ≠ .free := by
    constructor <;> rintro rfl <;> simp [EntryState.unfinished] at hx
  refine hs.congr order reports (fun h => ?_) (fun h => ?_) (fun h => ?_) <;>
    rcases entries h with same | ⟨before, after⟩
  · rw [same]
  · rw [before, after]
  · rw [same]
  · simp [live before, live after]
  · rw [same]; exact hs.free h
  · exact fun free => absurd free (live after).2

theorem ListsKept.suspend {s : State} (hs : s.ListsKept) (d : Nibble) (n : Byte) : (s.suspend d n).ListsKept := by
  refine hs.mapEntries rfl rfl fun h => ?_
  rw [entry_suspend]
  rcases holdEntry_state d (s.entry h) with same | ⟨-, going, held⟩
  · exact Or.inl same
  · rw [held]
    rcases going with e | e <;> simp [e, EntryState.unfinished]

theorem ListsKept.settle {s : State} (hs : s.ListsKept) {h : Handle} (unfinished : (s.entry h).state.unfinished = true)
    (o : SendOutcome) : (s.settle h o).ListsKept := by
  have done := hs.finish unfinished o
  unfold State.settle
  split
  · exact done.suspend _ _
  · split
    · exact done.mapEntries rfl rfl fun _ => Or.inl rfl
    · exact done
  · split
    · exact done.mapEntries rfl rfl fun _ => Or.inl rfl
    · exact done
  all_goals exact done

theorem ListsKept.consume {s : State} (hs : s.ListsKept) {h : Handle}
    (unfinished : (s.entry h).state.unfinished = true) (r : Reason) : (s.consume h r).ListsKept := by
  have counted : (s.countAttempt h r).ListsKept := hs.withEntry unfinished unfinished
  have same : ((s.countAttempt h r).entry h).state = (s.entry h).state := by simp [countAttempt]
  unfold State.consume
  split_ifs
  · exact counted.finish (by rwa [same]) .cancelled
  · exact (counted.finish (by rwa [same]) .failed).suspend _ _
  · exact hs.withEntry unfinished rfl

theorem ListsKept.handBack {s : State} (hs : s.ListsKept) {h : Handle}
    (unfinished : (s.entry h).state.unfinished = true) : (s.handBack h).ListsKept := by
  unfold State.handBack
  split
  · exact hs.finish unfinished .cancelled
  · exact hs.withEntry unfinished rfl

theorem ListsKept.collected {s : State} (hs : s.ListsKept) {h : Handle}
    (unfinished : (s.entry h).state.unfinished = true) : (s.collected h).ListsKept := by
  have replied : (s.replied h).ListsKept :=
    ListsKept.of_queue (hs.withEntry (h := h)
      (e := { s.entry h with cells := (s.entry h).cells.drop (cellsFor s.line.payloadCount) }) unfinished unfinished)
      rfl rfl
  rw [collected_eq]
  exact replied.settle (by simpa [entry_replied] using unfinished) .collected

/-! ### No entry in flight once its master has ended -/

/-- No entry is IN-FLIGHT. -/
def NoFlight (s : State) : Prop := ∀ g, (s.entry g).state ≠ .inFlight

theorem NoFlight.finish {s : State} {h : Handle} (alone : ∀ g, (s.entry g).state = .inFlight → g = h)
    (o : SendOutcome) : (s.finish h o).NoFlight := by
  intro g flight
  by_cases same : g = h
  · subst same
    rcases s.entry_finish_self g o with e | e <;> simp [e] at flight
  · rw [s.entry_finish_ne o same] at flight
    exact same (alone g flight)

theorem NoFlight.withEntry {s : State} {h : Handle} (alone : ∀ g, (s.entry g).state = .inFlight → g = h)
    {e : SendEntry} (after : e.state ≠ .inFlight) : (s.withEntry h e).NoFlight := by
  intro g flight
  rw [entry_withEntry] at flight
  split at flight
  · exact after flight
  next ne => exact ne (alone g flight)

theorem NoFlight.suspend {s : State} (hs : s.NoFlight) (d : Nibble) (n : Byte) : (s.suspend d n).NoFlight := by
  intro g
  rw [entry_suspend]
  rcases holdEntry_state d (s.entry g) with same | ⟨-, -, held⟩
  · rw [same]; exact hs g
  · simp [held]

theorem NoFlight.settle {s : State} {h : Handle} (alone : ∀ g, (s.entry g).state = .inFlight → g = h)
    (o : SendOutcome) : (s.settle h o).NoFlight := by
  have done := NoFlight.finish alone o
  unfold State.settle
  split
  · exact done.suspend _ _
  · split
    · exact fun g => done g
    · exact done
  · split
    · exact fun g => done g
    · exact done
  all_goals exact done

theorem NoFlight.consume {s : State} {h : Handle} (alone : ∀ g, (s.entry g).state = .inFlight → g = h)
    (r : Reason) : (s.consume h r).NoFlight := by
  have counted : ∀ g, ((s.countAttempt h r).entry g).state = .inFlight → g = h := by
    intro g flight
    rw [countAttempt, entry_withEntry] at flight
    split at flight
    next same => exact same
    next => exact alone g flight
  unfold State.consume
  split_ifs
  · exact NoFlight.finish counted .cancelled
  · exact (NoFlight.finish counted .failed).suspend _ _
  · exact NoFlight.withEntry alone (by simp)

theorem NoFlight.handBack {s : State} {h : Handle} (alone : ∀ g, (s.entry g).state = .inFlight → g = h) :
    (s.handBack h).NoFlight := by
  unfold State.handBack
  split
  · exact NoFlight.finish alone .cancelled
  · exact NoFlight.withEntry alone (by simp)

theorem NoFlight.collected {s : State} {h : Handle} (alone : ∀ g, (s.entry g).state = .inFlight → g = h) :
    (s.collected h).NoFlight := by
  rw [collected_eq]
  refine NoFlight.settle (fun g flight => ?_) .collected
  by_contra ne
  rw [entry_replied, if_neg ne] at flight
  exact ne (alone g flight)

/-! ### The moves keep the Send Queue -/

theorem QueueKept.congr {s t : State} (hs : s.QueueKept) (queue : t.queue = s.queue) (reports : t.reports = s.reports)
    (master : ∀ h, t.line.state = .master h ↔ s.line.state = .master h) : t.QueueKept :=
  (hs.lists.of_queue queue reports).queueKept fun h => by rw [entry_congr queue, master, hs.flight]

/-- The entry of a master is IN-FLIGHT, and no other. -/
theorem QueueKept.master_flight {s : State} (hs : s.QueueKept) {h : Handle} (master : s.line.state = .master h) :
    (s.entry h).state = .inFlight ∧ ∀ g, (s.entry g).state = .inFlight → g = h :=
  ⟨(hs.flight h).mpr master, fun g flight => by
    have other := (hs.flight g).mp flight
    rw [master] at other
    exact (LineState.master.inj other).symm⟩

/-- An entry that is not IN-FLIGHT changes to another such state: the others and the Line Engine stay. -/
theorem QueueKept.of_lists {s t : State} (hs : s.QueueKept) (lists : t.ListsKept) (state : t.line.state = s.line.state)
    (flight : ∀ h, (t.entry h).state = .inFlight ↔ (s.entry h).state = .inFlight) : t.QueueKept :=
  lists.queueKept fun h => by rw [flight, state, hs.flight]

/-- One entry changes, neither IN-FLIGHT before nor after. -/
theorem flight_of_entry {s t : State} {h : Handle} (before : (s.entry h).state ≠ .inFlight)
    (after : (t.entry h).state ≠ .inFlight) (others : ∀ g, g ≠ h → t.entry g = s.entry g) (g : Handle) :
    (t.entry g).state = .inFlight ↔ (s.entry g).state = .inFlight := by
  by_cases same : g = h
  · rw [same]; exact iff_of_false after before
  · rw [others g same]

end State
end Sys2Proof.Machine

namespace Sys2Proof.Machine
namespace State

/-- One entry changes in its fields, but not in being unfinished or FINISHED. -/
theorem ListsKept.of_entry {s t : State} (hs : s.ListsKept) (h : Handle) (order : t.queue.order = s.queue.order)
    (reports : t.reports = s.reports) (others : ∀ g, g ≠ h → t.entry g = s.entry g)
    (unfinished : (t.entry h).state.unfinished = (s.entry h).state.unfinished)
    (finished : (t.entry h).state = .finished ↔ (s.entry h).state = .finished)
    (free : (t.entry h).state = .free → t.entry h = .free) : t.ListsKept := by
  refine hs.congr order reports (fun g => ?_) (fun g => ?_) (fun g => ?_) <;> by_cases same : g = h
  · rw [same, unfinished]
  · rw [others g same]
  · rw [same, finished]
  · rw [others g same]
  · rw [same]; exact free
  · rw [others g same]; exact hs.free g

theorem QueueKept.openSend {s : State} (hs : s.QueueKept) {h : Handle} (slot : (s.entry h).state = .free) (n : Nat) :
    (s.openSend h n).QueueKept := by
  have others (g : Handle) (ne : g ≠ h) : (s.openSend h n).entry g = s.entry g := by rw [entry_openSend, if_neg ne]
  have self : ((s.openSend h n).entry h).state = .staging := by rw [entry_openSend, if_pos rfl]
  refine hs.of_lists (hs.lists.of_entry h rfl rfl others ?_ ?_ ?_) rfl (flight_of_entry ?_ ?_ others) <;>
    simp [self, slot, EntryState.unfinished]

theorem QueueKept.dropStaging {s : State} (hs : s.QueueKept) {h : Handle} (staging : (s.entry h).state = .staging) :
    (s.dropStaging h).QueueKept := by
  have others (g : Handle) (ne : g ≠ h) : (s.dropStaging h).entry g = s.entry g := by
    rw [entry_dropStaging, if_neg ne]
  have self : (s.dropStaging h).entry h = .free := by rw [entry_dropStaging, if_pos rfl]
  refine hs.of_lists (hs.lists.of_entry h rfl rfl others ?_ ?_ ?_) rfl (flight_of_entry ?_ ?_ others) <;>
    simp [self, staging, EntryState.unfinished, SendEntry.free]

/-- R61: the entry posted joins the end of the post-order list. -/
theorem QueueKept.postEntry {s : State} (hs : s.QueueKept) {h : Handle} (staging : (s.entry h).state = .staging)
    (k : Kind) : (s.postEntry h k).QueueKept := by
  have others (g : Handle) (ne : g ≠ h) : (s.postEntry h k).entry g = s.entry g := by rw [entry_postEntry, if_neg ne]
  have self : ((s.postEntry h k).entry h).state = .held ∨ ((s.postEntry h k).entry h).state = .ready := by
    rw [entry_postEntry, if_pos rfl]; unfold postedEntry; simp only; split <;> simp
  have out : h ∉ s.queue.order := by rw [hs.orderMember, staging]; simp [EntryState.unfinished]
  refine hs.of_lists ⟨?_, fun g => ?_, hs.waitingNodup, fun g => ?_, hs.room, hs.full, fun g => ?_⟩ rfl
    (flight_of_entry (h := h) (by simp [staging]) (by rcases self with e | e <;> simp [e]) others)
  · exact List.nodup_append.mpr ⟨hs.orderNodup, by simp, by rintro a ha b hb rfl; simp_all⟩
  · rw [show (s.postEntry h k).queue.order = s.queue.order ++ [h] from rfl, List.mem_append, hs.orderMember]
    by_cases same : g = h
    · rcases self with e | e <;> simp [same, e, EntryState.unfinished]
    · simp [others g same, same]
  · rw [show (s.postEntry h k).reports = s.reports from rfl, hs.waitingMember]
    by_cases same : g = h
    · rcases self with e | e <;> simp [same, e, staging]
    · rw [others g same]
  · by_cases same : g = h
    · rcases self with e | e <;> simp [same, e]
    · rw [others g same]; exact hs.free g

theorem unfinished_of_waits {x : EntryState} (waits : x = .ready ∨ x = .backoff ∨ x = .held) :
    x.unfinished = true ∧ x ≠ .inFlight := by
  rcases waits with rfl | rfl | rfl <;> exact ⟨rfl, by simp⟩

theorem QueueKept.finish {s : State} (hs : s.QueueKept) {h : Handle} (o : SendOutcome)
    (waits : (s.entry h).state = .ready ∨ (s.entry h).state = .backoff ∨ (s.entry h).state = .held) :
    (s.finish h o).QueueKept := by
  obtain ⟨unfinished, ground⟩ := unfinished_of_waits waits
  refine hs.of_lists (hs.lists.finish unfinished o) (by simp) (flight_of_entry ground ?_ fun g => s.entry_finish_ne o)
  rcases s.entry_finish_self h o with e | e <;> simp [e]

theorem QueueKept.resumeDest {s : State} (hs : s.QueueKept) (d : Nibble) : (s.resumeDest d).QueueKept := by
  refine hs.of_lists (hs.lists.mapEntries rfl rfl fun h => ?_) rfl fun h => ?_ <;> rw [entry_resumeDest] <;>
    rcases resumeEntry_state d (s.entry h) with ⟨same, -⟩ | ⟨-, held, ready⟩
  · exact Or.inl same
  · rw [ready, held]; exact Or.inr ⟨rfl, rfl⟩
  · rw [same]
  · simp [ready, held]

theorem QueueKept.discardDest {s : State} (hs : s.QueueKept) (d : Nibble) : (s.discardDest d).QueueKept := by
  have held {h : Handle} (mem : h ∈ s.heldTo d) : (s.entry h).state = .held := ((s.mem_heldTo d h).mp mem).2.1
  have done : (s.finishAll (s.heldTo d) .discarded).ListsKept :=
    hs.lists.finishAll (hs.orderNodup.filter _) (fun h mem => by rw [held mem]; rfl) .discarded
  refine hs.of_lists (done.mapEntries rfl rfl fun _ => Or.inl rfl) (by simp) fun g => ?_
  by_cases mem : g ∈ s.heldTo d
  · rcases entry_discardDest_of_mem hs.orderNodup mem with e | e <;> simp [e, held mem]
  · rw [s.entry_discardDest_of_notMem mem]

/-- R7: the entry claimed for is the one IN-FLIGHT, and the Line Engine is MASTER for it. -/
theorem QueueKept.claim {s : State} (hs : s.QueueKept) {h : Handle} (quiet : s.line.state = .quiet)
    (waits : h ∈ s.queue.order) : (s.claim h).QueueKept := by
  have unfinished := (hs.orderMember h).mp waits
  have lists : (s.withEntry h { s.entry h with state := .inFlight }).ListsKept := hs.lists.withEntry unfinished rfl
  have claimed : (s.claim h).ListsKept := lists.of_queue rfl rfl
  refine claimed.queueKept fun g => ?_
  rw [entry_claim, show (s.claim h).line.state = .master h from rfl]
  split
  next same => simp [same]
  next ne =>
    rw [hs.flight g, quiet]
    simp [Ne.symm ne]

theorem takeHeadReport_reports_of_waiting_nil (s : State) (rest : List Report) (none : s.reports.waiting = []) :
    (s.takeHeadReport rest).reports = { records := rest, waiting := [] } := by
  rw [s.takeHeadReport_of_waiting_nil rest none]

/-- R178: the oldest FINISHED entry becomes FREE and leaves the waiting list. -/
theorem QueueKept.takeHeadReport {s : State} (hs : s.QueueKept) {head : Report} {rest : List Report}
    (cons : s.reports.records = head :: rest) : (s.takeHeadReport rest).QueueKept := by
  cases waiting : s.reports.waiting with
  | nil =>
    rw [s.takeHeadReport_of_waiting_nil rest waiting]
    refine hs.of_lists ⟨hs.orderNodup, hs.orderMember, by simp, fun h => ?_, ?_, by simp, hs.free⟩ rfl fun _ => Iff.rfl
    · have member := hs.waitingMember h
      rwa [waiting] at member
    · have room := hs.room
      rw [cons, List.length_cons] at room
      simp only
      omega
  | cons h more =>
    have nodup := hs.waitingNodup
    rw [waiting, List.nodup_cons] at nodup
    have full := hs.full (by simp [waiting])
    rw [cons, List.length_cons] at full
    have finished : (s.entry h).state = .finished := (hs.waitingMember h).mp (by simp [waiting])
    have entries (g : Handle) : (s.takeHeadReport rest).entry g = if g = h then .free else s.entry g := by
      rw [s.takeHeadReport_of_waiting_cons rest waiting]
      exact s.entry_withEntry h g .free
    have others (g : Handle) (ne : g ≠ h) : (s.takeHeadReport rest).entry g = s.entry g := by rw [entries, if_neg ne]
    have self : (s.takeHeadReport rest).entry h = .free := by rw [entries, if_pos rfl]
    have reports : (s.takeHeadReport rest).reports =
        { records := rest ++ [s.reportOf h (s.entry h).outcome], waiting := more } := by
      rw [s.takeHeadReport_of_waiting_cons rest waiting]
    refine hs.of_lists ⟨by simpa using hs.orderNodup, fun g => ?_, by rw [reports]; exact nodup.2, fun g => ?_, ?_, ?_,
      fun g => ?_⟩ (by simp) (flight_of_entry (h := h) (by simp [finished]) (by simp [self, SendEntry.free]) others)
    · rw [takeHeadReport_queue_order, hs.orderMember]
      by_cases same : g = h
      · simp [same, self, finished, EntryState.unfinished, SendEntry.free]
      · rw [others g same]
    · rw [reports]
      by_cases same : g = h
      · simp [same, self, nodup.1, SendEntry.free]
      · have member := hs.waitingMember g
        rw [others g same, ← member, waiting]
        simp [same]
    · rw [reports]; simp; omega
    · rw [reports]; intro _; simp; omega
    · by_cases same : g = h
      · rw [same]; exact fun _ => self
      · rw [others g same]; exact hs.free g

theorem countDown_state (e : SendEntry) : e.countDown.state = e.state := by
  unfold SendEntry.countDown; split <;> rfl

theorem countDown_of_ne (e : SendEntry) (h : e.state ≠ .backoff) : e.countDown = e := if_neg h

theorem QueueKept.bitPeriod {s : State} (hs : s.QueueKept) : s.bitPeriod.QueueKept := by
  refine hs.of_lists (hs.lists.mapEntries rfl rfl fun h => ?_) rfl fun h => by rw [entry_bitPeriod, countDown_state]
  rw [entry_bitPeriod, countDown_state]
  by_cases backoff : (s.entry h).state = .backoff
  · exact Or.inr ⟨by rw [backoff]; rfl, by rw [backoff]; rfl⟩
  · exact Or.inl (countDown_of_ne _ backoff)

theorem entry_reset (h : Handle) : State.reset.entry h = .free := by
  simp [entry, reset, SendQueue.reset]

theorem queueKept_reset : State.reset.QueueKept where
  orderNodup := List.nodup_nil
  orderMember h := by rw [entry_reset]; exact iff_of_false List.not_mem_nil (by decide)
  flight h := by rw [entry_reset]; exact iff_of_false (by decide) (LineState.ne_master_of_unbound rfl h)
  waitingNodup := List.nodup_nil
  waitingMember h := by rw [entry_reset]; exact iff_of_false List.not_mem_nil (by decide)
  room := Nat.zero_le 8
  full h := absurd rfl h
  free h _ := entry_reset h

/-- Two Line Engine states that are both bound to no entry. -/
theorem master_iff_of_unbound {x y : LineState} (hx : x.unbound = true) (hy : y.unbound = true) (h : Handle) :
    y = .master h ↔ x = .master h :=
  iff_of_false (LineState.ne_master_of_unbound hy h) (LineState.ne_master_of_unbound hx h)

/-- A master's attempt has ended in `u`, with no entry left in flight, and the Line Engine goes on as `l`. -/
theorem ListsKept.queueKept_withLine {u : State} {l : LineEngine} (lists : u.ListsKept) (ground : u.NoFlight)
    (after : l.state.unbound = true) : (u.withLine l).QueueKept :=
  have kept : (u.withLine l).ListsKept := lists.of_queue rfl rfl
  kept.queueKept fun h => iff_of_false (ground h) (LineState.ne_master_of_unbound after h)

theorem Moves.keeps_queue {s t : State} (m : s.Moves t) : s.QueueKept → t.QueueKept := by
  have unfinished {s : State} {h : Handle} (hs : s.QueueKept) (master : s.line.state = .master h) :
      (s.entry h).state.unfinished = true := by rw [(hs.master_flight master).1]; rfl
  induction m with
  | same blocks => exact fun hs => hs.congr blocks.queue blocks.reports fun h => by rw [blocks.line]
  | trans _ _ first second => exact fun hs => second (first hs)
  | powerOn | softReset => exact fun _ => queueKept_reset.congr rfl rfl fun _ => Iff.rfl
  | openSend s h n _ _ slot => exact fun hs => hs.openSend slot n
  | post s h k staging => exact fun hs => hs.postEntry staging k
  | dropStaging s h staging => exact fun hs => hs.dropStaging staging
  | finish s h o waits => exact fun hs => hs.finish o waits
  | cancelPending s h flight =>
    intro hs
    refine hs.of_lists (hs.lists.withEntry (by rw [flight]; rfl) (by rw [flight]; rfl)) rfl fun g => ?_
    rw [entry_withEntry]
    split
    next same => rw [same]
    next => rfl
  | halted s b =>
    exact fun hs => hs.of_lists (hs.lists.mapEntries rfl rfl fun _ => Or.inl rfl) rfl fun _ => Iff.rfl
  | resume s d => exact fun hs => hs.resumeDest d
  | discard s d => exact fun hs => hs.discardDest d
  | backoffEnds s h backoff =>
    exact fun hs => hs.of_lists (hs.lists.withEntry (by rw [backoff]; rfl) rfl) rfl
      (flight_of_entry (h := h) (by simp [backoff]) (by simp) fun g => s.entry_withEntry_ne _)
  | claim s h quiet _ waits => exact fun hs => hs.claim quiet waits
  | takeHeadReport s head rest cons => exact fun hs => hs.takeHeadReport cons
  | bitPeriod s => exact fun hs => hs.bitPeriod
  | store | takeHead | drain | openOffer | postOffer | withdrawStaging | withdrawPosted | withdrawServing | clearOffer
  | fill | write => exact fun hs => hs.congr rfl rfl fun _ => Iff.rfl
  | goOn s l on => exact fun hs => hs.congr rfl rfl fun h => by rw [withLine_line, on.state]
  | unbound s l _ before after =>
    exact fun hs => hs.congr rfl rfl (master_iff_of_unbound before after)
  | discardIntake s l _ listens after =>
    refine fun hs => hs.congr (by simp) (by simp) fun h => ?_
    rcases after with same | ⟨before, after⟩
    · rw [withLine_line, same]
    · exact master_iff_of_unbound before after h
  | takeIn s l _ _ state | commitIntake s k l _ _ state =>
    exact fun hs => hs.congr (by simp) (by simp) fun h => by simp [state]
  | serve s i l _ before _ after =>
    exact fun hs => hs.congr rfl rfl fun h => iff_of_false (by simp [after])
      (LineState.ne_master_of_unbound before h)
  | returnOffer s i l _ serving after | giveOffer s i _ l _ serving after =>
    exact fun hs => hs.congr (by simp) (by simp) fun h => iff_of_false (LineState.ne_master_of_unbound after h)
      (by simp [serving])
  | handBack s h l _ master after =>
    exact fun hs => (hs.lists.handBack (unfinished hs master)).queueKept_withLine
      (NoFlight.handBack (hs.master_flight master).2) after
  | consume s h r l _ master after =>
    exact fun hs => (hs.lists.consume (unfinished hs master) r).queueKept_withLine
      (NoFlight.consume (hs.master_flight master).2 r) after
  | settle s h o l _ master after =>
    exact fun hs => (hs.lists.settle (unfinished hs master) o).queueKept_withLine
      (NoFlight.settle (hs.master_flight master).2 o) after
  | collected s h l _ master _ after =>
    exact fun hs => (hs.lists.collected (unfinished hs master)).queueKept_withLine
      (NoFlight.collected (hs.master_flight master).2) after

end State

/-- Settles O54: every move keeps the post-order list, the one entry in flight and the waiting list. -/
theorem stepKeepsTheSendQueueAndReportList : Obligations.StepKeepsTheSendQueueAndReportList := by
  unfold Obligations.StepKeepsTheSendQueueAndReportList
  intro s t hs ht
  obtain ⟨s', same, moves⟩ := step_moves ht
  exact moves.keeps_queue (hs.congr same.queue same.reports fun h => by rw [same.line])

end Sys2Proof.Machine

/-! SUPPORT. What each move makes of the offers, and the invariant of the Offer Table. -/

namespace Sys2Proof.Machine
namespace State

/-! ### Offers after each operation -/

theorem offerAt_dropOffer (s : State) (i j : OfferIndex) (o : Offer) :
    (s.dropOffer i o).offerAt j = if j = i then o else s.offerAt j :=
  offerAt_withOffer s i j o

theorem offerAt_openOffer (s : State) (i j : OfferIndex) (n : Nat) (a : Nibble) :
    (s.openOffer i n a).offerAt j =
      if j = i then
        { state := .staging, addressee := a, length := n, cells := s.pool.lowest n, takenBy := 0
          withdrawPending := false }
      else s.offerAt j :=
  offerAt_withOffer (s.withPool _) i j _

theorem offerAt_postOffer (s : State) (i j : OfferIndex) :
    (s.postOffer i).offerAt j = if j = i then { s.offerAt i with state := .posted } else s.offerAt j :=
  offerAt_withOffer s i j _

theorem offerAt_giveOffer (s : State) (i j : OfferIndex) (o : Nibble) :
    (s.giveOffer i o).offerAt j =
      if j = i then { s.offerAt i with state := .taken, cells := [], takenBy := o, withdrawPending := false }
      else s.offerAt j :=
  s.offerAt_dropOffer i j _

/-- R167: with withdraw-pending set the offer is dropped. -/
theorem returnOffer_of_pending {s : State} {i : OfferIndex} (pending : (s.offerAt i).withdrawPending = true) :
    s.returnOffer i = s.dropOffer i .free := if_pos pending

/-- R167: otherwise it is POSTED again, in its place. -/
theorem returnOffer_of_not_pending {s : State} {i : OfferIndex} (going : (s.offerAt i).withdrawPending = false) :
    s.returnOffer i = s.withOffer i { s.offerAt i with state := .posted, withdrawPending := false } :=
  if_neg (by simp [going])

/-! ### The Offer Table -/

theorem OffersKept.congr {s t : State} (hs : s.OffersKept) (offers : t.offers = s.offers)
    (serving : ∀ i, t.line.state = .listener (.serving i) ↔ s.line.state = .listener (.serving i)) : t.OffersKept := by
  have same (i : OfferIndex) : t.offerAt i = s.offerAt i := offerAt_congr offers i
  obtain ⟨nodup, member, serves, pending, free, taken⟩ := hs
  exact ⟨by rwa [offers], fun i => by rw [offers, same, member], fun i => by rw [same, serving, serves],
    fun i => by rw [same]; exact pending i, fun i => by rw [same]; exact free i, fun i => by rw [same]; exact taken i⟩

/-- One offer changes to `x`, and with it its place in the order. -/
theorem OffersKept.of_offer {s t : State} (hs : s.OffersKept) {i : OfferIndex} {x : Offer}
    (entries : ∀ j, t.offerAt j = if j = i then x else s.offerAt j) (nodup : t.offers.order.Nodup)
    (self : i ∈ t.offers.order ↔ x.state = .posted ∨ x.state = .serving)
    (places : ∀ j, j ≠ i → (j ∈ t.offers.order ↔ j ∈ s.offers.order))
    (serving : ∀ j, (t.offerAt j).state = .serving ↔ t.line.state = .listener (.serving j))
    (pending : x.withdrawPending = true → x.state = .serving) (free : x.state = .free → x = .free)
    (taken : x.state = .taken → x.cells = []) : t.OffersKept := by
  refine ⟨nodup, fun j => ?_, serving, fun j => ?_, fun j => ?_, fun j => ?_⟩ <;> rw [entries] <;> split
  next same => rw [same]; exact self
  next ne => rw [places j ne]; exact hs.orderMember j
  next => exact pending
  next => exact hs.withdrawPending j
  next => exact free
  next => exact hs.free j
  next => exact taken
  next => exact hs.taken j

/-- Which offer is served does not change with an offer that is not SERVING before nor after. -/
theorem OffersKept.serving_of_offer {s t : State} (hs : s.OffersKept) {i : OfferIndex} {x : Offer}
    (entries : ∀ j, t.offerAt j = if j = i then x else s.offerAt j) (state : t.line.state = s.line.state)
    (before : (s.offerAt i).state ≠ .serving) (after : x.state ≠ .serving) (j : OfferIndex) :
    (t.offerAt j).state = .serving ↔ t.line.state = .listener (.serving j) := by
  rw [state, ← hs.serving j, entries]
  split
  next same => rw [same]; exact iff_of_false after before
  next => rfl

/-- No offer is SERVING once the one served has ended. -/
theorem OffersKept.unserved_of_offer {s t : State} (hs : s.OffersKept) {i : OfferIndex} {x : Offer}
    (serving : s.line.state = .listener (.serving i))
    (entries : ∀ j, t.offerAt j = if j = i then x else s.offerAt j) (ended : x.state ≠ .serving)
    (after : t.line.state.unbound = true) (j : OfferIndex) :
    (t.offerAt j).state = .serving ↔ t.line.state = .listener (.serving j) := by
  refine iff_of_false (fun other => ?_) (LineState.ne_serving_of_unbound after j)
  rw [entries] at other
  split at other
  · exact ended other
  next ne =>
    have state := (hs.serving j).mp other
    rw [serving] at state
    exact ne (Role.serving.inj (LineState.listener.inj state)).symm

theorem OffersKept.nodup_filter {s : State} (hs : s.OffersKept) (i : OfferIndex) :
    (s.offers.order.filter (· != i)).Nodup := hs.orderNodup.filter _

/-- An offer that is not SERVING leaves the table's order, or was outside it. -/
theorem OffersKept.dropOffer {s : State} (hs : s.OffersKept) {i : OfferIndex}
    (before : (s.offerAt i).state ≠ .serving) : (s.dropOffer i .free).OffersKept := by
  have entries (j : OfferIndex) := s.offerAt_dropOffer i j .free
  exact hs.of_offer entries (hs.nodup_filter i) (by simp [State.dropOffer, Offer.free])
    (fun j ne => by simp [State.dropOffer, ne]) (hs.serving_of_offer entries rfl before (by simp [Offer.free]))
    (by simp [Offer.free]) (fun _ => rfl) (by simp [Offer.free])

theorem OffersKept.openOffer {s : State} (hs : s.OffersKept) {i : OfferIndex} (slot : (s.offerAt i).state = .free)
    (n : Nat) (a : Nibble) : (s.openOffer i n a).OffersKept := by
  have entries (j : OfferIndex) := s.offerAt_openOffer i j n a
  have out : i ∉ s.offers.order := by simp [hs.orderMember, slot]
  exact hs.of_offer entries hs.orderNodup (iff_of_false out (by simp)) (fun _ _ => Iff.rfl)
    (hs.serving_of_offer entries rfl (by simp [slot]) (by simp)) (by simp) (by simp) (by simp)

theorem OffersKept.postOffer {s : State} (hs : s.OffersKept) {i : OfferIndex}
    (staging : (s.offerAt i).state = .staging) : (s.postOffer i).OffersKept := by
  have entries (j : OfferIndex) := s.offerAt_postOffer i j
  have order : (s.postOffer i).offers.order = s.offers.order ++ [i] := rfl
  have out : i ∉ s.offers.order := by simp [hs.orderMember, staging]
  have pending := hs.withdrawPending i
  rw [staging] at pending
  refine hs.of_offer entries ?_ (by simp [order]) (fun j ne => by simp [order, ne])
    (hs.serving_of_offer entries rfl (by simp [staging]) (by simp)) (fun set => absurd (pending set) (by simp))
    (by simp) (by simp)
  rw [order]
  exact List.nodup_append.mpr ⟨hs.orderNodup, by simp, by rintro a ha b hb rfl; simp_all⟩

theorem OffersKept.withdrawServing {s : State} (hs : s.OffersKept) {i : OfferIndex}
    (serving : (s.offerAt i).state = .serving) :
    (s.withOffer i { s.offerAt i with withdrawPending := true }).OffersKept := by
  have entries (j : OfferIndex) := s.offerAt_withOffer i j { s.offerAt i with withdrawPending := true }
  refine hs.of_offer entries hs.orderNodup (hs.orderMember i) (fun _ _ => Iff.rfl) (fun j => ?_) (fun _ => serving)
    (by simp [serving]) (by simp [serving])
  rw [entries, withOffer_line, ← hs.serving j]
  split
  next same => rw [same]
  next => rfl

theorem OffersKept.clearOffer {s : State} (hs : s.OffersKept) {i : OfferIndex} (taken : (s.offerAt i).state = .taken) :
    (s.withOffer i .free).OffersKept := by
  have entries (j : OfferIndex) := s.offerAt_withOffer i j .free
  have out : i ∉ s.offers.order := by simp [hs.orderMember, taken]
  exact hs.of_offer entries hs.orderNodup (iff_of_false out (by simp [Offer.free])) (fun _ _ => Iff.rfl)
    (hs.serving_of_offer entries rfl (by simp [taken]) (by simp [Offer.free])) (by simp [Offer.free]) (fun _ => rfl)
    (by simp [Offer.free])

/-- R161, R162: the offer selected is the one served. -/
theorem OffersKept.serve {s : State} (hs : s.OffersKept) {i : OfferIndex} {l : LineEngine}
    (before : s.line.state.unbound = true) (posted : (s.offerAt i).state = .posted)
    (after : l.state = .listener (.serving i)) :
    ((s.withOffer i { s.offerAt i with state := .serving }).withLine l).OffersKept := by
  have entries (j : OfferIndex) : ((s.withOffer i { s.offerAt i with state := .serving }).withLine l).offerAt j =
      if j = i then { s.offerAt i with state := .serving } else s.offerAt j := s.offerAt_withOffer i j _
  have placed : i ∈ s.offers.order := by simp [hs.orderMember, posted]
  refine hs.of_offer entries hs.orderNodup (iff_of_true placed (Or.inr rfl)) (fun _ _ => Iff.rfl) (fun j => ?_)
    (fun _ => rfl) (by simp) (by simp)
  rw [entries, withLine_line, after]
  split
  next same => simp [same]
  next ne =>
    rw [hs.serving j]
    exact iff_of_false (LineState.ne_serving_of_unbound before j) (by simp [Ne.symm ne])

theorem OffersKept.returnOffer {s : State} (hs : s.OffersKept) {i : OfferIndex} {l : LineEngine}
    (serving : s.line.state = .listener (.serving i)) (after : l.state.unbound = true) :
    ((s.returnOffer i).withLine l).OffersKept := by
  cases pending : (s.offerAt i).withdrawPending with
  | true =>
    rw [returnOffer_of_pending pending]
    have entries (j : OfferIndex) : ((s.dropOffer i .free).withLine l).offerAt j =
        if j = i then .free else s.offerAt j := s.offerAt_dropOffer i j .free
    exact hs.of_offer entries (hs.nodup_filter i) (by simp [State.dropOffer, Offer.free])
      (fun j ne => by simp [State.dropOffer, ne])
      (hs.unserved_of_offer serving entries (by simp [Offer.free]) after)
      (by simp [Offer.free]) (fun _ => rfl) (by simp [Offer.free])
  | false =>
    rw [returnOffer_of_not_pending pending]
    have entries (j : OfferIndex) : ((s.withOffer i
        { s.offerAt i with state := .posted, withdrawPending := false }).withLine l).offerAt j =
        if j = i then { s.offerAt i with state := .posted, withdrawPending := false } else s.offerAt j :=
      s.offerAt_withOffer i j _
    have placed : i ∈ s.offers.order := by rw [hs.orderMember]; exact Or.inr ((hs.serving i).mpr serving)
    exact hs.of_offer entries hs.orderNodup (iff_of_true placed (Or.inl rfl)) (fun _ _ => Iff.rfl)
      (hs.unserved_of_offer serving entries (by simp) after) (by simp) (by simp) (by simp)

theorem OffersKept.giveOffer {s : State} (hs : s.OffersKept) {i : OfferIndex} {l : LineEngine} (o : Nibble)
    (serving : s.line.state = .listener (.serving i)) (after : l.state.unbound = true) :
    ((s.giveOffer i o).withLine l).OffersKept := by
  have entries (j : OfferIndex) : ((s.giveOffer i o).withLine l).offerAt j =
      if j = i then { s.offerAt i with state := .taken, cells := [], takenBy := o, withdrawPending := false }
      else s.offerAt j := s.offerAt_giveOffer i j o
  exact hs.of_offer entries (hs.nodup_filter i) (by simp [State.giveOffer, State.dropOffer])
    (fun j ne => by simp [State.giveOffer, State.dropOffer, ne])
    (hs.unserved_of_offer serving entries (by simp) after) (by simp) (by simp) (fun _ => rfl)

theorem offerAt_reset (i : OfferIndex) : State.reset.offerAt i = .free := by
  simp [offerAt, reset, OfferTable.reset]

theorem offersKept_reset : State.reset.OffersKept where
  orderNodup := List.nodup_nil
  orderMember i := by rw [offerAt_reset]; exact iff_of_false List.not_mem_nil (by decide)
  serving i := by rw [offerAt_reset]; exact iff_of_false (by decide) (LineState.ne_serving_of_unbound rfl i)
  withdrawPending i := by rw [offerAt_reset]; decide
  free i _ := offerAt_reset i
  taken i := by rw [offerAt_reset]; decide

/-- Two Line Engine states that both serve no offer. -/
theorem serving_iff_of_unbound {x y : LineState} (hx : x.unbound = true) (hy : y.unbound = true) (i : OfferIndex) :
    y = .listener (.serving i) ↔ x = .listener (.serving i) :=
  iff_of_false (LineState.ne_serving_of_unbound hy i) (LineState.ne_serving_of_unbound hx i)

/-- A master serves no offer, and neither does what it becomes. -/
theorem OffersKept.of_master {s t : State} (hs : s.OffersKept) {h : Handle} (master : s.line.state = .master h)
    (offers : t.offers = s.offers) (after : t.line.state.unbound = true) : t.OffersKept :=
  hs.congr offers fun i => iff_of_false (LineState.ne_serving_of_unbound after i) (by simp [master])

theorem Moves.keeps_offers {s t : State} (m : s.Moves t) : s.OffersKept → t.OffersKept := by
  induction m with
  | same blocks => exact fun hs => hs.congr blocks.offers fun i => by rw [blocks.line]
  | trans _ _ first second => exact fun hs => second (first hs)
  | powerOn | softReset => exact fun _ => offersKept_reset.congr rfl fun _ => Iff.rfl
  | claim s h quiet =>
    exact fun hs => hs.congr rfl fun i => iff_of_false (by simp [State.claim]) (by simp [quiet])
  | openOffer s i n a _ slot => exact fun hs => hs.openOffer slot n a
  | postOffer s i staging => exact fun hs => hs.postOffer staging
  | withdrawStaging s i staging =>
    exact fun hs => (hs.dropOffer (by simp [staging])).congr rfl fun _ => Iff.rfl
  | withdrawPosted s i posted => exact fun hs => hs.dropOffer (by simp [posted])
  | withdrawServing s i serving => exact fun hs => hs.withdrawServing serving
  | clearOffer s i taken => exact fun hs => hs.clearOffer taken
  | goOn s l on => exact fun hs => hs.congr rfl fun i => by rw [withLine_line, on.state]
  | unbound s l _ before after => exact fun hs => hs.congr rfl (serving_iff_of_unbound before after)
  | discardIntake s l _ listens after =>
    refine fun hs => hs.congr (by simp) fun i => ?_
    rcases after with same | ⟨before, after⟩
    · rw [withLine_line, same]
    · exact serving_iff_of_unbound before after i
  | takeIn s l _ _ state | commitIntake s k l _ _ state => exact fun hs => hs.congr (by simp) fun i => by simp [state]
  | serve s i l _ before posted after => exact fun hs => hs.serve before posted after
  | returnOffer s i l _ serving after => exact fun hs => hs.returnOffer serving after
  | giveOffer s i o l _ serving after => exact fun hs => hs.giveOffer o serving after
  | handBack s h l _ master after | consume s h r l _ master after | settle s h o l _ master after
  | collected s h l _ master _ after => exact fun hs => hs.of_master master (by simp) after
  | store | openSend | post | dropStaging | halted | resume | takeHead | bitPeriod =>
    exact fun hs => hs.congr rfl fun _ => Iff.rfl
  | _ => exact fun hs => hs.congr (by simp) fun _ => by simp

end State

/-- Settles O55: every move keeps the offers and their order. -/
theorem stepKeepsTheOfferTable : Obligations.StepKeepsTheOfferTable := by
  unfold Obligations.StepKeepsTheOfferTable
  intro s t hs ht
  obtain ⟨s', same, moves⟩ := step_moves ht
  exact moves.keeps_offers (hs.congr same.offers fun i => by rw [same.line])

end Sys2Proof.Machine

/-! SUPPORT. The staging buffer and the fill cursor: which moves leave them, which open and close a buffer, and their
invariant. -/

namespace Sys2Proof.Machine
namespace State

/-- The fill cursor is the same, and so is every entry and every offer but those that are not STAGING before nor
after. -/
structure SameStaging (s t : State) : Prop where
  fill : t.window.fill = s.window.fill
  entries : ∀ h, t.entry h = s.entry h ∨ (s.entry h).state ≠ .staging ∧ (t.entry h).state ≠ .staging
  offers : ∀ i, t.offerAt i = s.offerAt i ∨ (s.offerAt i).state ≠ .staging ∧ (t.offerAt i).state ≠ .staging

theorem SameStaging.trans {s t u : State} (first : s.SameStaging t) (second : t.SameStaging u) : s.SameStaging u where
  fill := second.fill.trans first.fill
  entries h := by
    rcases second.entries h with same | ⟨before, after⟩
    · rw [same]; exact first.entries h
    · rcases first.entries h with same | ⟨start, -⟩
      · rw [← same]; exact Or.inr ⟨before, after⟩
      · exact Or.inr ⟨start, after⟩
  offers i := by
    rcases second.offers i with same | ⟨before, after⟩
    · rw [same]; exact first.offers i
    · rcases first.offers i with same | ⟨start, -⟩
      · rw [← same]; exact Or.inr ⟨before, after⟩
      · exact Or.inr ⟨start, after⟩

theorem SameStaging.of_blocks {s t : State} (queue : t.queue = s.queue) (offers : t.offers = s.offers)
    (fill : t.window.fill = s.window.fill) : s.SameStaging t :=
  ⟨fill, fun h => Or.inl (entry_congr queue h), fun i => Or.inl (offerAt_congr offers i)⟩

/-- Only entries change, none of them STAGING. -/
theorem SameStaging.of_entries {s t : State} (offers : t.offers = s.offers) (fill : t.window.fill = s.window.fill)
    (entries : ∀ h, t.entry h = s.entry h ∨ (s.entry h).state ≠ .staging ∧ (t.entry h).state ≠ .staging) :
    s.SameStaging t :=
  ⟨fill, entries, fun i => Or.inl (offerAt_congr offers i)⟩

/-- Only offer i changes, and it is not STAGING. -/
theorem SameStaging.of_offer {s t : State} {i : OfferIndex} {x : Offer} (queue : t.queue = s.queue)
    (fill : t.window.fill = s.window.fill) (entries : ∀ j, t.offerAt j = if j = i then x else s.offerAt j)
    (before : (s.offerAt i).state ≠ .staging) (after : x.state ≠ .staging) : s.SameStaging t := by
  refine ⟨fill, fun h => Or.inl (entry_congr queue h), fun j => ?_⟩
  rw [entries]
  split
  next same => rw [same]; exact Or.inr ⟨before, after⟩
  next => exact Or.inl rfl

theorem SameStaging.withEntry {s : State} {h : Handle} {e : SendEntry} (before : (s.entry h).state ≠ .staging)
    (after : e.state ≠ .staging) : s.SameStaging (s.withEntry h e) := by
  refine .of_entries rfl rfl fun g => ?_
  rw [entry_withEntry]
  split
  next same => rw [same]; exact Or.inr ⟨before, after⟩
  next => exact Or.inl rfl

theorem SameStaging.finish {s : State} {h : Handle} (before : (s.entry h).state ≠ .staging) (o : SendOutcome) :
    s.SameStaging (s.finish h o) := by
  refine .of_entries (by simp) (by simp) fun g => ?_
  by_cases same : g = h
  · rw [same]
    refine Or.inr ⟨before, ?_⟩
    rcases s.entry_finish_self h o with e | e <;> simp [e]
  · exact Or.inl (s.entry_finish_ne o same)

theorem SameStaging.suspend (s : State) (d : Nibble) (n : Byte) : s.SameStaging (s.suspend d n) := by
  refine .of_entries rfl rfl fun g => ?_
  rw [entry_suspend]
  rcases holdEntry_state d (s.entry g) with same | ⟨-, going, held⟩
  · exact Or.inl same
  · rw [held]
    rcases going with e | e <;> simp [e]

theorem SameStaging.clearFresh (s : State) (d : Nibble) : s.SameStaging (s.clearFresh d) :=
  .of_entries rfl rfl fun _ => Or.inl rfl

theorem SameStaging.settle {s : State} {h : Handle} (before : (s.entry h).state ≠ .staging) (o : SendOutcome) :
    s.SameStaging (s.settle h o) := by
  have done := SameStaging.finish before o
  unfold State.settle
  split
  · exact done.trans (.suspend _ _ _)
  · split
    · exact done.trans (.clearFresh _ _)
    · exact done
  · split
    · exact done.trans (.clearFresh _ _)
    · exact done
  all_goals exact done

theorem SameStaging.consume {s : State} {h : Handle} (before : (s.entry h).state ≠ .staging) (r : Reason) :
    s.SameStaging (s.consume h r) := by
  have counted : s.SameStaging (s.countAttempt h r) := .withEntry before before
  have going : ((s.countAttempt h r).entry h).state ≠ .staging := by simpa [countAttempt] using before
  unfold State.consume
  split_ifs
  · exact counted.trans (.finish going _)
  · exact (counted.trans (.finish going _)).trans (.suspend _ _ _)
  · exact .withEntry before (by simp)

theorem SameStaging.handBack {s : State} {h : Handle} (before : (s.entry h).state ≠ .staging) :
    s.SameStaging (s.handBack h) := by
  unfold State.handBack
  split
  · exact .finish before _
  · exact .withEntry before (by simp)

theorem SameStaging.collected {s : State} {h : Handle} (before : (s.entry h).state ≠ .staging) :
    s.SameStaging (s.collected h) := by
  have replied : s.SameStaging (s.replied h) := by
    refine .of_entries rfl rfl fun g => ?_
    rw [entry_replied]
    split
    next same => rw [same]; exact Or.inr ⟨before, before⟩
    next => exact Or.inl rfl
  rw [collected_eq]
  exact replied.trans (.settle (by simpa [entry_replied] using before) _)

theorem SameStaging.discardDest {s : State} (hs : s.QueueKept) (d : Nibble) : s.SameStaging (s.discardDest d) := by
  refine .of_entries (by simp) (by simp) fun g => ?_
  by_cases mem : g ∈ s.heldTo d
  · have held : (s.entry g).state = .held := ((s.mem_heldTo d g).mp mem).2.1
    refine Or.inr ⟨by simp [held], ?_⟩
    rcases entry_discardDest_of_mem hs.orderNodup mem with e | e <;> simp [e]
  · exact Or.inl (s.entry_discardDest_of_notMem mem)

theorem SameStaging.takeHeadReport {s : State} (hs : s.QueueKept) (rest : List Report) :
    s.SameStaging (s.takeHeadReport rest) := by
  refine .of_entries (by simp) (by simp) fun g => ?_
  rcases s.entry_takeHeadReport_cases rest g with same | ⟨waits, freed⟩
  · exact Or.inl same
  · have finished := (hs.waitingMember g).mp waits
    exact Or.inr ⟨by simp [finished], by rw [freed]; decide⟩

/-! ### The invariant of the staging buffer -/

theorem StagingKept.congr {s t : State} (hs : s.StagingKept) (same : s.SameStaging t) : t.StagingKept := by
  obtain ⟨fill, entries, offers⟩ := same
  refine ⟨fun h => ?_, fun i => ?_, fun f attached => ?_⟩
  · rw [fill, ← hs.sendBuffer h]
    rcases entries h with e | ⟨before, after⟩
    · rw [e]
    · exact iff_of_false after before
  · rw [fill, ← hs.offerBuffer i]
    rcases offers i with e | ⟨before, after⟩
    · rw [e]
    · exact iff_of_false after before
  · rw [fill] at attached
    have within := hs.position f attached
    obtain ⟨buffer, position⟩ := f
    cases buffer with
    | send h =>
      have staging := (hs.sendBuffer h).mpr ⟨position, attached⟩
      rcases entries h with e | ⟨before, -⟩
      · exact within.trans_eq (congrArg SendEntry.length e.symm)
      · exact absurd staging before
    | offer i =>
      have staging := (hs.offerBuffer i).mpr ⟨position, attached⟩
      rcases offers i with e | ⟨before, -⟩
      · exact within.trans_eq (congrArg Offer.length e.symm)
      · exact absurd staging before

/-- R58, R159: the cursor of a new buffer stands at byte 0, and nothing else is STAGING. -/
theorem stagingKept_of_opened {t : State} {b : Buffer} (fill : t.window.fill = some ⟨b, 0⟩)
    (sends : ∀ h, (t.entry h).state = .staging ↔ b = .send h)
    (offers : ∀ i, (t.offerAt i).state = .staging ↔ b = .offer i) : t.StagingKept := by
  refine ⟨fun h => ?_, fun i => ?_, fun f attached => ?_⟩
  · rw [sends, fill]; simp
  · rw [offers, fill]; simp
  · rw [fill] at attached
    cases attached
    exact Nat.zero_le _

/-- Without a buffer the cursor is detached. -/
theorem stagingKept_of_closed {t : State} (fill : t.window.fill = none) (sends : ∀ h, (t.entry h).state ≠ .staging)
    (offers : ∀ i, (t.offerAt i).state ≠ .staging) : t.StagingKept :=
  ⟨fun h => by simp [fill, sends h], fun i => by simp [fill, offers i], fun f attached => by simp [fill] at attached⟩

/-- A STAGING entry is the only buffer. -/
theorem StagingKept.send_alone {s : State} (hs : s.StagingKept) {h : Handle} (staging : (s.entry h).state = .staging) :
    (∀ g, (s.entry g).state = .staging → g = h) ∧ ∀ i, (s.offerAt i).state ≠ .staging := by
  obtain ⟨n, attached⟩ := (hs.sendBuffer h).mp staging
  refine ⟨fun g other => ?_, fun i other => ?_⟩
  · obtain ⟨m, there⟩ := (hs.sendBuffer g).mp other
    rw [attached] at there
    simpa using (congrArg (Option.map FillCursor.buffer) there).symm
  · obtain ⟨m, there⟩ := (hs.offerBuffer i).mp other
    rw [attached] at there
    simp at there

/-- A STAGING offer is the only buffer. -/
theorem StagingKept.offer_alone {s : State} (hs : s.StagingKept) {i : OfferIndex}
    (staging : (s.offerAt i).state = .staging) :
    (∀ h, (s.entry h).state ≠ .staging) ∧ ∀ j, (s.offerAt j).state = .staging → j = i := by
  obtain ⟨n, attached⟩ := (hs.offerBuffer i).mp staging
  refine ⟨fun h other => ?_, fun j other => ?_⟩
  · obtain ⟨m, there⟩ := (hs.sendBuffer h).mp other
    rw [attached] at there
    simp at there
  · obtain ⟨m, there⟩ := (hs.offerBuffer j).mp other
    rw [attached] at there
    simpa using (congrArg (Option.map FillCursor.buffer) there).symm

/-- The one STAGING entry becomes another entry, and the cursor is detached. -/
theorem StagingKept.close_send {s t : State} (hs : s.StagingKept) {h : Handle} {e : SendEntry}
    (staging : (s.entry h).state = .staging) (fill : t.window.fill = none)
    (entries : ∀ g, t.entry g = if g = h then e else s.entry g) (after : e.state ≠ .staging)
    (offers : t.offers = s.offers) : t.StagingKept := by
  obtain ⟨alone, none⟩ := hs.send_alone staging
  refine stagingKept_of_closed fill (fun g => ?_) fun i => by rw [offerAt_congr offers]; exact none i
  rw [entries]
  split
  · exact after
  next ne => exact fun other => ne (alone g other)

/-- The one STAGING offer becomes another offer, and the cursor is detached. -/
theorem StagingKept.close_offer {s t : State} (hs : s.StagingKept) {i : OfferIndex} {x : Offer}
    (staging : (s.offerAt i).state = .staging) (fill : t.window.fill = none)
    (offers : ∀ j, t.offerAt j = if j = i then x else s.offerAt j) (after : x.state ≠ .staging)
    (queue : t.queue = s.queue) : t.StagingKept := by
  obtain ⟨none, alone⟩ := hs.offer_alone staging
  refine stagingKept_of_closed fill (fun h => by rw [entry_congr queue]; exact none h) fun j => ?_
  rw [offers]
  split
  · exact after
  next ne => exact fun other => ne (alone j other)

theorem stagingKept_openSend {s : State} (noStaging : s.noStaging = true) (h : Handle) (n : Nat) :
    (s.openSend h n).StagingKept := by
  obtain ⟨sends, offers⟩ := (noStaging_iff s).mp noStaging
  refine stagingKept_of_opened (b := .send h) rfl (fun g => ?_) fun i => ?_
  · rw [entry_openSend]
    split
    next same => simp [same]
    next ne => exact iff_of_false (sends g) fun e => ne (Buffer.send.inj e).symm
  · exact iff_of_false (offers i) (by simp)

theorem stagingKept_openOffer {s : State} (noStaging : s.noStaging = true) (i : OfferIndex) (n : Nat) (a : Nibble) :
    (s.openOffer i n a).StagingKept := by
  obtain ⟨sends, offers⟩ := (noStaging_iff s).mp noStaging
  refine stagingKept_of_opened (b := .offer i) rfl (fun h => ?_) fun j => ?_
  · exact iff_of_false (sends h) (by simp)
  · rw [offerAt_openOffer]
    split
    next same => simp [same]
    next ne => exact iff_of_false (offers j) fun e => ne (Buffer.offer.inj e).symm

/-- R197: the cursor moves on within its buffer. -/
theorem StagingKept.fill {s : State} (hs : s.StagingKept) {f : FillCursor} (attached : s.window.fill = some f)
    (below : f.position < s.bufferLength f.buffer) :
    (s.withFill (some { f with position := f.position + 1 })).StagingKept := by
  obtain ⟨buffer, position⟩ := f
  refine ⟨fun h => ?_, fun i => ?_, fun g moved => ?_⟩
  · refine (hs.sendBuffer h).trans ?_
    simp [attached]
  · refine (hs.offerBuffer i).trans ?_
    simp [attached]
  · cases moved
    exact below

theorem stagingKept_reset : State.reset.StagingKept :=
  stagingKept_of_closed rfl (fun h => by rw [entry_reset]; decide) fun i => by rw [offerAt_reset]; decide

theorem Moves.keeps_staging {s t : State} (m : s.Moves t) :
    s.QueueKept → s.OffersKept → s.StagingKept → t.StagingKept := by
  have flying {s : State} {h : Handle} (hq : s.QueueKept) (master : s.line.state = .master h) :
      (s.entry h).state ≠ .staging := by simp [(hq.master_flight master).1]
  induction m with
  | same blocks =>
    exact fun _ _ hs => hs.congr (.of_blocks blocks.queue blocks.offers blocks.fill)
  | trans m _ first second =>
    exact fun hq ho hs => second (m.keeps_queue hq) (m.keeps_offers ho) (first hq ho hs)
  | powerOn | softReset => exact fun _ _ _ => stagingKept_reset.congr (.of_blocks rfl rfl rfl)
  | openSend s h n noStaging => exact fun _ _ _ => stagingKept_openSend noStaging h n
  | openOffer s i n a noStaging => exact fun _ _ _ => stagingKept_openOffer noStaging i n a
  | post s h k staging =>
    exact fun _ _ hs => hs.close_send staging rfl (fun g => s.entry_postEntry h g k)
      (by unfold postedEntry; simp only; split <;> simp) rfl
  | dropStaging s h staging =>
    exact fun _ _ hs => hs.close_send staging rfl (fun g => s.entry_dropStaging h g) (by decide) rfl
  | postOffer s i staging =>
    exact fun _ _ hs => hs.close_offer staging rfl (fun j => s.offerAt_postOffer i j) (by simp) rfl
  | withdrawStaging s i staging =>
    exact fun _ _ hs => hs.close_offer staging rfl (fun j => s.offerAt_dropOffer i j .free) (by decide) rfl
  | withdrawPosted s i posted =>
    exact fun _ _ hs => hs.congr (.of_offer rfl rfl (fun j => s.offerAt_dropOffer i j .free) (by simp [posted])
      (by decide))
  | withdrawServing s i serving =>
    exact fun _ _ hs => hs.congr (.of_offer rfl rfl (fun j => s.offerAt_withOffer i j _) (by simp [serving])
      (by simp [serving]))
  | clearOffer s i taken =>
    exact fun _ _ hs => hs.congr (.of_offer rfl rfl (fun j => s.offerAt_withOffer i j _) (by simp [taken])
      (by decide))
  | finish s h o waits =>
    exact fun _ _ hs => hs.congr (.finish (by rcases waits with e | e | e <;> simp [e]) o)
  | cancelPending s h flight => exact fun _ _ hs => hs.congr (.withEntry (by simp [flight]) (by simp [flight]))
  | halted => exact fun _ _ hs => hs.congr (.of_entries rfl rfl fun _ => Or.inl rfl)
  | resume s d =>
    refine fun _ _ hs => hs.congr (.of_entries rfl rfl fun g => ?_)
    rw [entry_resumeDest]
    rcases resumeEntry_state d (s.entry g) with ⟨same, -⟩ | ⟨-, held, ready⟩
    · exact Or.inl same
    · exact Or.inr ⟨by simp [held], by simp [ready]⟩
  | discard s d => exact fun hq _ hs => hs.congr (.discardDest hq d)
  | backoffEnds s h backoff => exact fun _ _ hs => hs.congr (.withEntry (by simp [backoff]) (by simp))
  | claim s h _ _ waits =>
    refine fun hq _ hs => hs.congr (.trans (t := s.withEntry h { s.entry h with state := .inFlight })
      (.withEntry ?_ (by simp)) (.of_blocks rfl rfl rfl))
    intro staging
    have unfinished := (hq.orderMember h).mp waits
    simp [staging, EntryState.unfinished] at unfinished
  | takeHeadReport s head rest => exact fun hq _ hs => hs.congr (.takeHeadReport hq rest)
  | fill s f attached below => exact fun _ _ hs => hs.fill attached below
  | bitPeriod s =>
    refine fun _ _ hs => hs.congr (.of_entries rfl rfl fun g => ?_)
    rw [entry_bitPeriod, countDown_state]
    by_cases backoff : (s.entry g).state = .backoff
    · exact Or.inr ⟨by simp [backoff], by simp [backoff]⟩
    · exact Or.inl (countDown_of_ne _ backoff)
  | serve s i l _ _ posted =>
    exact fun _ _ hs => hs.congr (.of_offer rfl rfl (fun j => s.offerAt_withOffer i j _) (by simp [posted]) (by simp))
  | returnOffer s i l _ serving =>
    intro _ ho hs
    have serves := (ho.serving i).mpr serving
    refine hs.congr (.trans (t := s.returnOffer i) ?_ (.of_blocks rfl rfl rfl))
    cases pending : (s.offerAt i).withdrawPending with
    | true =>
      rw [returnOffer_of_pending pending]
      exact .of_offer rfl rfl (fun j => s.offerAt_dropOffer i j .free) (by simp [serves]) (by decide)
    | false =>
      rw [returnOffer_of_not_pending pending]
      exact .of_offer rfl rfl (fun j => s.offerAt_withOffer i j _) (by simp [serves]) (by simp)
  | giveOffer s i o l _ serving =>
    intro _ ho hs
    exact hs.congr (.of_offer rfl rfl (fun j => s.offerAt_giveOffer i j o) (by simp [(ho.serving i).mpr serving])
      (by simp))
  | handBack s h l _ master =>
    exact fun hq _ hs => hs.congr ((SameStaging.handBack (flying hq master)).trans (.of_blocks rfl rfl rfl))
  | consume s h r l _ master =>
    exact fun hq _ hs => hs.congr ((SameStaging.consume (flying hq master) r).trans (.of_blocks rfl rfl rfl))
  | settle s h o l _ master =>
    exact fun hq _ hs => hs.congr ((SameStaging.settle (flying hq master) o).trans (.of_blocks rfl rfl rfl))
  | collected s h l _ master =>
    exact fun hq _ hs => hs.congr ((SameStaging.collected (flying hq master)).trans (.of_blocks rfl rfl rfl))
  | store | takeHead | drain | write | goOn | unbound =>
    exact fun _ _ hs => hs.congr (.of_blocks rfl rfl rfl)
  | discardIntake | takeIn | commitIntake =>
    exact fun _ _ hs => hs.congr (.of_blocks (by simp) (by simp) (by simp))

end State

/-- Settles O57: every move keeps the one staging buffer and its cursor. -/
theorem stepKeepsOneStagingBuffer : Obligations.StepKeepsOneStagingBuffer := by
  unfold Obligations.StepKeepsOneStagingBuffer
  intro s t hq ho hs ht
  obtain ⟨s', same, moves⟩ := step_moves ht
  exact moves.keeps_staging (hq.congr same.queue same.reports fun h => by rw [same.line])
    (ho.congr same.offers fun i => by rw [same.line])
    (hs.congr (.of_blocks same.queue same.offers same.fill))

end Sys2Proof.Machine

/-! SUPPORT. What each move keeps of the message of an unfinished entry, and of its standing towards its destination;
the invariants of the tested entries and of the suspended destinations. -/

namespace Sys2Proof.Machine

/-! ### An entry's message and its standing -/

/-- The length does not grow, and an entry that is unfinished was so before, with the same message. -/
structure SendEntry.SameMessage (e f : SendEntry) : Prop where
  length : f.length ≤ e.length
  unfinished : f.state.unfinished = true → e.state.unfinished = true
    ∧ f.kind = e.kind ∧ f.dest = e.dest ∧ f.length = e.length ∧ f.tag = e.tag

/-- An entry that is unfinished was so before, HELD or not as before, with the same destination and attempts. -/
def SendEntry.SameStanding (e f : SendEntry) : Prop :=
  f.state.unfinished = true → e.state.unfinished = true
    ∧ (f.state = .held ↔ e.state = .held) ∧ f.dest = e.dest ∧ f.retryLimit = e.retryLimit ∧ f.attempts = e.attempts

namespace SendEntry

theorem SameMessage.refl (e : SendEntry) : e.SameMessage e := ⟨le_rfl, fun h => ⟨h, rfl, rfl, rfl, rfl⟩⟩

theorem SameMessage.trans {e f g : SendEntry} (first : e.SameMessage f) (second : f.SameMessage g) :
    e.SameMessage g := by
  refine ⟨second.length.trans first.length, fun live => ?_⟩
  obtain ⟨live, kind, dest, length, tag⟩ := second.unfinished live
  obtain ⟨live, kind', dest', length', tag'⟩ := first.unfinished live
  exact ⟨live, kind.trans kind', dest.trans dest', length.trans length', tag.trans tag'⟩

theorem SameMessage.of_dead {e f : SendEntry} (length : f.length ≤ e.length) (dead : f.state.unfinished = false) :
    e.SameMessage f := ⟨length, fun live => by simp [dead] at live⟩

theorem SameMessage.free (e : SendEntry) : e.SameMessage .free := .of_dead (Nat.zero_le _) rfl

theorem SameStanding.refl (e : SendEntry) : e.SameStanding e := fun h => ⟨h, Iff.rfl, rfl, rfl, rfl⟩

theorem SameStanding.of_dead {e f : SendEntry} (dead : f.state.unfinished = false) : e.SameStanding f :=
  fun live => by simp [dead] at live

end SendEntry

theorem EntryState.dead_of_ended {x : EntryState} (ended : x = .free ∨ x = .finished) : x.unfinished = false := by
  rcases ended with rfl | rfl <;> rfl

namespace State

/-! ### What POST has tested -/

/-- The node's number and the message of every unfinished entry stay. -/
structure SameMessages (s t : State) : Prop where
  node : t.window.settings.node = s.window.settings.node
  entries : ∀ h, (s.entry h).SameMessage (t.entry h)

theorem SameMessages.trans {s t u : State} (first : s.SameMessages t) (second : t.SameMessages u) :
    s.SameMessages u :=
  ⟨second.node.trans first.node, fun h => (first.entries h).trans (second.entries h)⟩

theorem SameMessages.of_blocks {s t : State} (queue : t.queue = s.queue)
    (node : t.window.settings.node = s.window.settings.node) : s.SameMessages t :=
  ⟨node, fun h => by rw [entry_congr queue]; exact .refl _⟩

theorem PostedKept.congr {s t : State} (hs : s.PostedKept) (same : s.SameMessages t) : t.PostedKept := by
  refine ⟨fun h => (same.entries h).length.trans (hs.length h), fun h live => ?_⟩
  obtain ⟨live, kind, dest, length, tag⟩ := (same.entries h).unfinished live
  rw [kind, dest, length, tag, same.node]
  exact hs.tested h live

/-- One entry changes, keeping its message. -/
theorem SameMessages.of_entry {s t : State} (h : Handle) {e : SendEntry}
    (node : t.window.settings.node = s.window.settings.node)
    (entries : ∀ g, t.entry g = if g = h then e else s.entry g) (message : (s.entry h).SameMessage e) :
    s.SameMessages t := by
  refine ⟨node, fun g => ?_⟩
  rw [entries]
  split
  next same => rw [same]; exact message
  next => exact .refl _

theorem SameMessages.finish (s : State) (h : Handle) (o : SendOutcome) : s.SameMessages (s.finish h o) := by
  refine ⟨by simp, fun g => ?_⟩
  by_cases same : g = h
  · rw [same]
    by_cases room : s.reports.records.length < 8
    · rw [s.entry_finish_of_room h o room]; exact .free _
    · rw [s.entry_finish_of_full h o room]; exact .of_dead le_rfl rfl
  · rw [s.entry_finish_ne o same]; exact .refl _

theorem SameMessages.finishAll (s : State) (hs : List Handle) (o : SendOutcome) : s.SameMessages (s.finishAll hs o) := by
  induction hs generalizing s with
  | nil => exact .of_blocks rfl rfl
  | cons h hs ih => exact (SameMessages.finish s h o).trans (ih _)

theorem SameMessages.suspend (s : State) (d : Nibble) (n : Byte) : s.SameMessages (s.suspend d n) := by
  refine ⟨rfl, fun g => ?_⟩
  rw [entry_suspend]
  rcases holdEntry_state d (s.entry g) with same | ⟨-, going, held⟩
  · rw [same]; exact .refl _
  · rw [held]
    exact ⟨le_rfl, fun _ => ⟨by rcases going with e | e <;> rw [e] <;> rfl, rfl, rfl, rfl, rfl⟩⟩

theorem SameMessages.settle (s : State) (h : Handle) (o : SendOutcome) : s.SameMessages (s.settle h o) := by
  have done := SameMessages.finish s h o
  have fresh (d : Nibble) : (s.finish h o).SameMessages ((s.finish h o).clearFresh d) := ⟨rfl, fun _ => .refl _⟩
  unfold State.settle
  split
  · exact done.trans (.suspend _ _ _)
  · split
    · exact done.trans (fresh _)
    · exact done
  · split
    · exact done.trans (fresh _)
    · exact done
  all_goals exact done

theorem SameMessages.consume {s : State} {h : Handle} (flight : (s.entry h).state = .inFlight) (r : Reason) :
    s.SameMessages (s.consume h r) := by
  have counted : s.SameMessages (s.countAttempt h r) :=
    .of_entry h rfl (fun g => s.entry_withEntry h g _) ⟨le_rfl, fun live => ⟨live, rfl, rfl, rfl, rfl⟩⟩
  unfold State.consume
  split_ifs
  · exact counted.trans (.finish _ _ _)
  · exact (counted.trans (.finish _ _ _)).trans (.suspend _ _ _)
  · exact .of_entry h rfl (fun g => s.entry_withEntry h g _)
      ⟨le_rfl, fun _ => ⟨by rw [flight]; rfl, rfl, rfl, rfl, rfl⟩⟩

theorem SameMessages.handBack {s : State} {h : Handle} (flight : (s.entry h).state = .inFlight) :
    s.SameMessages (s.handBack h) := by
  unfold State.handBack
  split
  · exact .finish _ _ _
  · exact .of_entry h rfl (fun g => s.entry_withEntry h g _)
      ⟨le_rfl, fun _ => ⟨by rw [flight]; rfl, rfl, rfl, rfl, rfl⟩⟩

theorem SameMessages.collected (s : State) (h : Handle) : s.SameMessages (s.collected h) := by
  have replied : s.SameMessages (s.replied h) :=
    .of_entry h rfl (fun g => s.entry_replied h g) ⟨le_rfl, fun live => ⟨live, rfl, rfl, rfl, rfl⟩⟩
  rw [collected_eq]
  exact replied.trans (.settle _ _ _)

theorem postedKept_reset : State.reset.PostedKept :=
  ⟨fun h => by rw [entry_reset]; decide, fun h live => by rw [entry_reset] at live; exact absurd live (by decide)⟩

/-- R194: the node's number is stored only while no entry is unfinished. -/
theorem PostedKept.store {s : State} (hs : s.PostedKept) (allFree : s.window.opA = 0 → s.allFree = true) :
    ({ s with window := { s.window with
      settings := s.window.settings.store s.window.opA s.window.opB } } : State).PostedKept := by
  by_cases node : s.window.opA = 0
  · have free (h : Handle) : (s.entry h).state = .free := by
      have all := allFree node
      unfold State.allFree at all
      rw [Bool.and_eq_true, allEntries_iff] at all
      simpa using all.1 h
    refine ⟨hs.length, fun h live => ?_⟩
    have live' : (s.entry h).state.unfinished = true := live
    simp [free h, EntryState.unfinished] at live'
  · refine hs.congr ⟨?_, fun _ => .refl _⟩
    simp only [Settings.store, if_neg node]
    split_ifs <;> rfl

/-- R61: POST writes into the entry what it has tested. -/
theorem PostedKept.postEntry {s : State} (hs : s.PostedKept) {h : Handle} {k : Kind}
    (dest : destinationFits k s.postDest = true) (other : s.postDest ≠ s.window.settings.node)
    (length : lengthFits k (s.entry h).length = true) : (s.postEntry h k).PostedKept := by
  refine ⟨fun g => ?_, fun g => ?_⟩ <;> rw [entry_postEntry] <;> split
  next => exact hs.length h
  next => exact hs.length g
  next => exact fun _ => ⟨k, rfl, dest, other, length, fun untagged => by simp [postedEntry, untagged]⟩
  next => exact hs.tested g

theorem Moves.keeps_posted {s t : State} (m : s.Moves t) : s.QueueKept → s.PostedKept → t.PostedKept := by
  induction m with
  | same blocks => exact fun _ hs => hs.congr (.of_blocks blocks.queue (by rw [blocks.settings]))
  | trans m _ first second => exact fun hq hs => second (m.keeps_queue hq) (first hq hs)
  | powerOn => exact fun _ _ => postedKept_reset.congr (.of_blocks rfl rfl)
  | softReset =>
    exact fun _ _ => ⟨postedKept_reset.length, fun h live => by
      have live' : (State.reset.entry h).state.unfinished = true := live
      rw [entry_reset] at live'
      cases live'⟩
  | store s _ allFree => exact fun _ hs => hs.store allFree
  | openSend s h n _ length =>
    refine fun _ hs => ⟨fun g => ?_, fun g => ?_⟩ <;> rw [entry_openSend] <;> split
    next => exact length
    next => exact hs.length g
    next => exact fun live => by cases live
    next => exact hs.tested g
  | post s h k _ dest other length => exact fun _ hs => hs.postEntry dest other length
  | dropStaging s h =>
    exact fun _ hs => hs.congr (.of_entry h rfl (fun g => s.entry_dropStaging h g) (.free _))
  | finish s h o => exact fun _ hs => hs.congr (.finish s h o)
  | cancelPending s h =>
    exact fun _ hs => hs.congr (.of_entry h rfl (fun g => s.entry_withEntry h g _)
      ⟨le_rfl, fun live => ⟨live, rfl, rfl, rfl, rfl⟩⟩)
  | halted => exact fun _ hs => hs.congr ⟨rfl, fun _ => .refl _⟩
  | resume s d =>
    refine fun _ hs => hs.congr ⟨rfl, fun g => ?_⟩
    rw [entry_resumeDest]
    rcases resumeEntry_state d (s.entry g) with ⟨same, -⟩ | ⟨-, held, ready⟩
    · rw [same]; exact .refl _
    · rw [ready]; exact ⟨le_rfl, fun _ => ⟨by rw [held]; rfl, rfl, rfl, rfl, rfl⟩⟩
  | discard s d =>
    exact fun _ hs => hs.congr ((SameMessages.finishAll s (s.heldTo d) .discarded).trans ⟨rfl, fun _ => .refl _⟩)
  | backoffEnds s h backoff =>
    exact fun _ hs => hs.congr (.of_entry h rfl (fun g => s.entry_withEntry h g _)
      ⟨le_rfl, fun _ => ⟨by rw [backoff]; rfl, rfl, rfl, rfl, rfl⟩⟩)
  | claim s h _ _ waits =>
    exact fun hq hs => hs.congr (.of_entry h rfl (fun g => s.entry_claim h g)
      ⟨le_rfl, fun _ => ⟨(hq.orderMember h).mp waits, rfl, rfl, rfl, rfl⟩⟩)
  | takeHeadReport s head rest =>
    refine fun _ hs => hs.congr ⟨by simp, fun g => ?_⟩
    rcases s.entry_takeHeadReport_cases rest g with same | ⟨-, freed⟩
    · rw [same]; exact .refl _
    · rw [freed]; exact .free _
  | bitPeriod s =>
    refine fun _ hs => hs.congr ⟨rfl, fun g => ?_⟩
    rw [entry_bitPeriod]
    unfold SendEntry.countDown
    split
    · exact ⟨le_rfl, fun live => ⟨live, rfl, rfl, rfl, rfl⟩⟩
    · exact .refl _
  | handBack s h l _ master =>
    exact fun hq hs => hs.congr ((SameMessages.handBack (hq.master_flight master).1).trans (.of_blocks rfl rfl))
  | consume s h r l _ master =>
    exact fun hq hs => hs.congr ((SameMessages.consume (hq.master_flight master).1 r).trans (.of_blocks rfl rfl))
  | settle s h o l => exact fun _ hs => hs.congr ((SameMessages.settle s h o).trans (.of_blocks rfl rfl))
  | collected s h l => exact fun _ hs => hs.congr ((SameMessages.collected s h).trans (.of_blocks rfl rfl))
  | takeHead | openOffer | postOffer => exact fun _ hs => hs.congr (.of_blocks rfl rfl)
  | _ => exact fun _ hs => hs.congr (.of_blocks (by simp) (by simp))

/-! ### Suspended destinations -/

/-- Which destinations are suspended, and the standing of every unfinished entry, stay. -/
structure SameStandings (s t : State) : Prop where
  dests : ∀ d, (t.dest d).suspended = (s.dest d).suspended
  entries : ∀ h, (s.entry h).SameStanding (t.entry h)

theorem SameStandings.of_blocks {s t : State} (queue : t.queue = s.queue) : s.SameStandings t :=
  ⟨fun d => by rw [dest_congr queue], fun h => by rw [entry_congr queue]; exact .refl _⟩

/-- READY, BACKOFF and IN-FLIGHT are the unfinished states other than HELD. -/
theorem going_iff (x : EntryState) :
    (x = .ready ∨ x = .backoff ∨ x = .inFlight) ↔ x.unfinished = true ∧ x ≠ .held := by
  cases x <;> simp [EntryState.unfinished]

theorem SuspensionKept.congr {s t : State} (hs : s.SuspensionKept) (same : s.SameStandings t) : t.SuspensionKept := by
  refine ⟨fun h held => ?_, fun h going => ?_, fun h live => ?_⟩
  · obtain ⟨-, heldToo, dest, -, -⟩ := same.entries h (by rw [held]; rfl)
    rw [dest, same.dests]
    exact hs.held h (heldToo.mp held)
  · obtain ⟨live, notHeld⟩ := (going_iff _).mp going
    obtain ⟨liveToo, heldToo, dest, -, -⟩ := same.entries h live
    rw [dest, same.dests]
    exact hs.going h ((going_iff _).mpr ⟨liveToo, fun held => notHeld (heldToo.mpr held)⟩)
  · obtain ⟨liveToo, -, -, limit, attempts⟩ := same.entries h live
    rw [limit, attempts]
    exact hs.limit h liveToo

theorem SameStandings.of_entry {s t : State} (h : Handle) {e : SendEntry} (dests : t.queue.dests = s.queue.dests)
    (entries : ∀ g, t.entry g = if g = h then e else s.entry g) (standing : (s.entry h).SameStanding e) :
    s.SameStandings t := by
  refine ⟨fun d => by simp [dest, dests], fun g => ?_⟩
  rw [entries]
  split
  next same => rw [same]; exact standing
  next => exact .refl _

/-- A finish leaves the standing of the others, whatever became of the finished entry just before. -/
theorem SameStandings.finish_withEntry (s : State) (h : Handle) (e : SendEntry) (o : SendOutcome) :
    s.SameStandings ((s.withEntry h e).finish h o) := by
  refine ⟨fun d => by rw [dest_finish]; rfl, fun g => ?_⟩
  by_cases same : g = h
  · rw [same]
    exact .of_dead (EntryState.dead_of_ended ((s.withEntry h e).entry_finish_self h o))
  · rw [(s.withEntry h e).entry_finish_ne o same, s.entry_withEntry_ne e same]; exact .refl _

theorem SameStandings.finish (s : State) (h : Handle) (o : SendOutcome) : s.SameStandings (s.finish h o) := by
  refine ⟨fun d => by rw [dest_finish], fun g => ?_⟩
  by_cases same : g = h
  · rw [same]
    exact .of_dead (EntryState.dead_of_ended (s.entry_finish_self h o))
  · rw [s.entry_finish_ne o same]; exact .refl _

/-- R108: with no entry in flight, a suspension leaves no entry to the destination but HELD ones. -/
theorem SuspensionKept.suspend {s : State} (hs : s.SuspensionKept) (ground : s.NoFlight) (d : Nibble) (n : Byte) :
    (s.suspend d n).SuspensionKept := by
  have suspended (c : Nibble) : ((s.suspend d n).dest c).suspended = if c = d then true else (s.dest c).suspended := by
    rw [dest_suspend]; split <;> rfl
  refine ⟨fun h => ?_, fun h => ?_, fun h => ?_⟩ <;> rw [entry_suspend] <;>
    rcases holdEntry_state d (s.entry h) with same | ⟨dest, live, held⟩
  · rw [same, suspended]
    intro held
    split
    · rfl
    · exact hs.held h held
  · rw [held, suspended]
    exact fun _ => if_pos dest
  · rw [same, suspended]
    intro going
    have open_ := hs.going h going
    rw [if_neg, open_]
    intro dest
    have kept : ¬ ((s.entry h).state = .ready ∨ (s.entry h).state = .backoff) := by
      intro live
      have state := congrArg SendEntry.state same
      rw [holdEntry, if_pos ⟨dest, live⟩] at state
      rcases live with e | e <;> rw [e] at state <;> cases state
    rcases going with ready | backoff | flight
    · exact kept (Or.inl ready)
    · exact kept (Or.inr backoff)
    · exact ground h flight
  · rw [held]
    simp
  · rw [same]; exact hs.limit h
  · rw [held]
    exact fun _ => hs.limit h (by rcases live with e | e <;> rw [e] <;> rfl)

theorem SuspensionKept.settle {s : State} (hs : s.SuspensionKept) {h : Handle}
    (alone : ∀ g, (s.entry g).state = .inFlight → g = h) (o : SendOutcome) : (s.settle h o).SuspensionKept := by
  have done := hs.congr (.finish s h o)
  have fresh (d : Nibble) : (s.finish h o).SameStandings ((s.finish h o).clearFresh d) := by
    refine ⟨fun c => ?_, fun _ => .refl _⟩
    rw [clearFresh, dest_withDest]
    split
    next same => rw [same]
    next => rfl
  unfold State.settle
  split
  · exact done.suspend (NoFlight.finish alone _) _ _
  · split
    · exact done.congr (fresh _)
    · exact done
  · split
    · exact done.congr (fresh _)
    · exact done
  all_goals exact done

theorem SuspensionKept.consume {s : State} (hs : s.SuspensionKept) {h : Handle}
    (flight : (s.entry h).state = .inFlight) (alone : ∀ g, (s.entry g).state = .inFlight → g = h) (r : Reason) :
    (s.consume h r).SuspensionKept := by
  have done (o : SendOutcome) : ((s.countAttempt h r).finish h o).SuspensionKept :=
    hs.congr (.finish_withEntry s h _ o)
  have counted : ∀ g, ((s.countAttempt h r).entry g).state = .inFlight → g = h := by
    intro g state
    rw [countAttempt, entry_withEntry] at state
    split at state
    next same => exact same
    next => exact alone g state
  have live : (s.entry h).state.unfinished = true := by rw [flight]; rfl
  unfold State.consume
  split_ifs with cancelled failed
  · exact done .cancelled
  · exact (done .failed).suspend (NoFlight.finish counted _) _ _
  · refine ⟨fun g => ?_, fun g => ?_, fun g => ?_⟩ <;> rw [entry_withEntry] <;> split
    next => simp
    next => exact hs.held g
    next => exact fun _ => hs.going h (Or.inr (Or.inr flight))
    next => exact hs.going g
    next =>
      obtain ⟨limit, below⟩ := hs.limit h live
      exact fun _ => ⟨limit, by simp only; omega⟩
    next => exact hs.limit g

theorem SuspensionKept.handBack {s : State} (hs : s.SuspensionKept) {h : Handle}
    (flight : (s.entry h).state = .inFlight) : (s.handBack h).SuspensionKept := by
  unfold State.handBack
  split
  · exact hs.congr (.finish s h _)
  · exact hs.congr (.of_entry h rfl (fun g => s.entry_withEntry h g _)
      fun _ => ⟨by rw [flight]; rfl, by simp [flight], rfl, rfl, rfl⟩)

theorem SuspensionKept.collected {s : State} (hs : s.SuspensionKept) {h : Handle}
    (alone : ∀ g, (s.entry g).state = .inFlight → g = h) : (s.collected h).SuspensionKept := by
  have replied : (s.replied h).SuspensionKept :=
    hs.congr (.of_entry h rfl (fun g => s.entry_replied h g) fun live => ⟨live, Iff.rfl, rfl, rfl, rfl⟩)
  rw [collected_eq]
  refine replied.settle (fun g state => ?_) _
  by_contra ne
  rw [entry_replied, if_neg ne] at state
  exact ne (alone g state)

/-- R110: the entries to the destination that were HELD are READY with attempts used 0, and it is OPEN. -/
theorem SuspensionKept.resumeDest {s : State} (hs : s.SuspensionKept) (d : Nibble) : (s.resumeDest d).SuspensionKept := by
  have suspended (c : Nibble) : ((s.resumeDest d).dest c).suspended = if c = d then false else (s.dest c).suspended := by
    rw [dest_resumeDest]; split <;> rfl
  refine ⟨fun h => ?_, fun h => ?_, fun h => ?_⟩ <;> rw [entry_resumeDest] <;>
    rcases resumeEntry_state d (s.entry h) with ⟨same, notHeld⟩ | ⟨dest, held, ready⟩
  · rw [same, suspended]
    intro held
    rw [if_neg fun dest => notHeld ⟨dest, held⟩]
    exact hs.held h held
  · rw [ready]
    simp
  · rw [same, suspended]
    intro going
    split
    · rfl
    · exact hs.going h going
  · rw [ready, suspended]
    exact fun _ => if_pos dest
  · rw [same]; exact hs.limit h
  · rw [ready]
    obtain ⟨limit, below⟩ := hs.limit h (by rw [held]; rfl)
    exact fun _ => ⟨limit, Nat.zero_lt_of_lt below⟩

/-- R111: the entries to the destination that were HELD have finished, and it is OPEN. -/
theorem SuspensionKept.discardDest {s : State} (hs : s.SuspensionKept) (hq : s.QueueKept) (d : Nibble) :
    (s.discardDest d).SuspensionKept := by
  have suspended (c : Nibble) : ((s.discardDest d).dest c).suspended = if c = d then false else (s.dest c).suspended := by
    rw [discardDest_eq, dest_withDest]
    split
    · rfl
    · rw [dest_finishAll]
  have entries (h : Handle) : (s.discardDest d).entry h = s.entry h ∧ ¬ ((s.entry h).dest = d ∧ (s.entry h).state = .held)
      ∨ ((s.discardDest d).entry h).state.unfinished = false := by
    by_cases mem : h ∈ s.heldTo d
    · exact Or.inr (EntryState.dead_of_ended (entry_discardDest_of_mem hq.orderNodup mem))
    · refine Or.inl ⟨s.entry_discardDest_of_notMem mem, fun ⟨dest, held⟩ => mem ?_⟩
      exact (s.mem_heldTo d h).mpr ⟨(hq.orderMember h).mpr (by rw [held]; rfl), held, dest⟩
  refine ⟨fun h held => ?_, fun h going => ?_, fun h live => ?_⟩ <;> rcases entries h with ⟨same, notHeld⟩ | dead
  · rw [same] at held ⊢
    rw [suspended, if_neg fun dest => notHeld ⟨dest, held⟩]
    exact hs.held h held
  · rw [held] at dead; cases dead
  · rw [same] at going ⊢
    rw [suspended]
    split
    · rfl
    · exact hs.going h going
  · exact absurd ((going_iff _).mp going).1 (by simp [dead])
  · rw [same] at live ⊢; exact hs.limit h live
  · simp [dead] at live

/-- R61: a posted entry is HELD exactly if its destination is SUSPENDED, with attempts used 0 and a limit of 1 to 8. -/
theorem SuspensionKept.postEntry {s : State} (hs : s.SuspensionKept) (settings : s.SettingsKept) {h : Handle} (k : Kind)
    (retry : s.postRetry ≤ 8) : (s.postEntry h k).SuspensionKept := by
  have limits := settings.retryLimit
  refine ⟨fun g => ?_, fun g => ?_, fun g => ?_⟩ <;> rw [entry_postEntry] <;> split
  next =>
    rw [suspended_postEntry]
    simp only [postedEntry]
    cases (s.dest s.postDest).suspended <;> simp
  next => rw [suspended_postEntry]; exact hs.held g
  next =>
    rw [suspended_postEntry]
    simp only [postedEntry]
    cases (s.dest s.postDest).suspended <;> simp
  next => rw [suspended_postEntry]; exact hs.going g
  next =>
    intro _
    simp only [postedEntry]
    split <;> omega
  next => exact hs.limit g

theorem suspensionKept_reset : State.reset.SuspensionKept := by
  refine ⟨fun h => ?_, fun h => ?_, fun h => ?_⟩ <;> rw [entry_reset] <;> decide

theorem Moves.keeps_suspension {s t : State} (m : s.Moves t) :
    s.SettingsKept → s.QueueKept → s.SuspensionKept → t.SuspensionKept := by
  induction m with
  | same blocks => exact fun _ _ hs => hs.congr (.of_blocks blocks.queue)
  | trans m _ first second =>
    exact fun hc hq hs => second (m.keeps_settings hc) (m.keeps_queue hq) (first hc hq hs)
  | powerOn | softReset => exact fun _ _ _ => suspensionKept_reset.congr (.of_blocks rfl)
  | openSend s h n =>
    exact fun _ _ hs => hs.congr (.of_entry h rfl (fun g => s.entry_openSend h g n) (.of_dead rfl))
  | post s h k _ _ _ _ retry => exact fun hc _ hs => hs.postEntry hc k retry
  | dropStaging s h =>
    exact fun _ _ hs => hs.congr (.of_entry h rfl (fun g => s.entry_dropStaging h g) (.of_dead rfl))
  | finish s h o => exact fun _ _ hs => hs.congr (.finish s h o)
  | cancelPending s h =>
    exact fun _ _ hs => hs.congr (.of_entry h rfl (fun g => s.entry_withEntry h g _)
      fun live => ⟨live, Iff.rfl, rfl, rfl, rfl⟩)
  | halted => exact fun _ _ hs => hs.congr ⟨fun _ => rfl, fun _ => .refl _⟩
  | resume s d => exact fun _ _ hs => hs.resumeDest d
  | discard s d => exact fun _ hq hs => hs.discardDest hq d
  | backoffEnds s h backoff =>
    exact fun _ _ hs => hs.congr (.of_entry h rfl (fun g => s.entry_withEntry h g _)
      fun _ => ⟨by rw [backoff]; rfl, by simp [backoff], rfl, rfl, rfl⟩)
  | claim s h _ _ _ eligible =>
    have ready : (s.entry h).state = .ready := by
      simp only [State.eligible, Bool.and_eq_true, beq_iff_eq] at eligible
      exact eligible.1.1.1
    exact fun _ _ hs => hs.congr (.of_entry h rfl (fun g => s.entry_claim h g)
      fun _ => ⟨by rw [ready]; rfl, by simp [ready], rfl, rfl, rfl⟩)
  | takeHeadReport s head rest =>
    refine fun _ _ hs => hs.congr ⟨fun d => by simp [dest], fun g => ?_⟩
    rcases s.entry_takeHeadReport_cases rest g with same | ⟨-, freed⟩
    · rw [same]; exact .refl _
    · rw [freed]; exact .of_dead rfl
  | bitPeriod s =>
    refine fun _ _ hs => hs.congr ⟨fun _ => rfl, fun g => ?_⟩
    rw [entry_bitPeriod]
    unfold SendEntry.countDown
    split
    · exact fun live => ⟨live, Iff.rfl, rfl, rfl, rfl⟩
    · exact .refl _
  | handBack s h l _ master =>
    exact fun _ hq hs => (hs.handBack (hq.master_flight master).1).congr (.of_blocks rfl)
  | consume s h r l _ master =>
    exact fun _ hq hs => (hs.consume (hq.master_flight master).1 (hq.master_flight master).2 r).congr (.of_blocks rfl)
  | settle s h o l _ master =>
    exact fun _ hq hs => (hs.settle (hq.master_flight master).2 o).congr (.of_blocks rfl)
  | collected s h l _ master =>
    exact fun _ hq hs => (hs.collected (hq.master_flight master).2).congr (.of_blocks rfl)
  | store | takeHead | openOffer | postOffer => exact fun _ _ hs => hs.congr (.of_blocks rfl)
  | _ => exact fun _ _ hs => hs.congr (.of_blocks (by simp))

end State

/-- Settles O58: every move keeps the entries to a SUSPENDED destination HELD, and the attempts below the limit. -/
theorem stepKeepsSuspendedDestinationsHeld : Obligations.StepKeepsSuspendedDestinationsHeld := by
  unfold Obligations.StepKeepsSuspendedDestinationsHeld
  intro s t hc hq hs ht
  obtain ⟨s', same, moves⟩ := step_moves ht
  exact moves.keeps_suspension (hc.congr same.settings)
    (hq.congr same.queue same.reports fun h => by rw [same.line]) (hs.congr (.of_blocks same.queue))

/-- Settles O59: every move keeps what POST has tested. -/
theorem stepKeepsThePostedEntriesTested : Obligations.StepKeepsThePostedEntriesTested := by
  unfold Obligations.StepKeepsThePostedEntriesTested
  intro s t hq hs ht
  obtain ⟨s', same, moves⟩ := step_moves ht
  exact moves.keeps_posted (hq.congr same.queue same.reports fun h => by rw [same.line])
    (hs.congr (.of_blocks same.queue (by rw [same.settings])))

end Sys2Proof.Machine

/-! SUPPORT. The Receive List: what a commit and the end of an intake do to its places, and its invariant. -/

namespace Sys2Proof.Machine

/-- R146: the record takes a place of the routine share. -/
def ReceiveRecord.routine (r : ReceiveRecord) : Bool := !(r.kind == .data && r.urgent)

/-- R80, R22: a master holds the kind that it formed the header with. -/
theorem kind_of_header {l : LineEngine} {node : Nibble} {e : SendEntry} {first : Bool}
    (frames : l.frames = formHeader node e first) : l.kind = e.kind := by
  have low (n k : Nibble) : lo (pack n k) = k := by revert n k; decide
  have code (k : Option Kind) : Kind.ofCode (kindCode k) = k := by
    cases k with
    | none => rfl
    | some k => exact kind_ofCode_code k
  simp only [LineEngine.kind, LineEngine.kindField, frames, formHeader, Option.getD_some, low, code]

/-- No byte of L is held yet. -/
theorem payloadCount_of_header {l : LineEngine} {node : Nibble} {e : SendEntry} {first : Bool}
    (frames : l.frames = formHeader node e first) (collect : l.kind = some .collect) : l.payloadCount = 0 := by
  simp [LineEngine.payloadCount, collect, frames, formHeader]

namespace State

/-! ### The committed records -/

/-- What the invariant says of the committed records and the drain cursor alone. -/
structure RecordsKept (s : State) : Prop where
  places : s.recv.records.length ≤ 12
  share : (s.recv.records.filter ReceiveRecord.routine).length ≤ 10
  drainAttached : s.recv.drain = none ↔ s.recv.records = []
  drainWithin : ∀ n r rest, s.recv.drain = some n → s.recv.records = r :: rest → n ≤ r.length

theorem occupancy_of_none {s : State} (none : s.recv.intake = none) : s.occupancy = s.recv.records.length := by
  simp [occupancy, none]

theorem occupancy_of_some {s : State} {m : Intake} (some : s.recv.intake = some m) :
    s.occupancy = s.recv.records.length + 1 := by simp [occupancy, some]

theorem routineShare_of_none {s : State} (none : s.recv.intake = none) :
    s.routineShare = (s.recv.records.filter ReceiveRecord.routine).length := by
  simp only [routineShare, none]
  rfl

theorem routineShare_of_some {s : State} {m : Intake} (some : s.recv.intake = some m) :
    s.routineShare = (s.recv.records.filter ReceiveRecord.routine).length
      + if s.line.state = .listener .gathering ∨ m.urgent = false then 1 else 0 := by
  simp only [routineShare, some]
  rfl

theorem ReceiveKept.recordsKept {s : State} (hs : s.ReceiveKept) : s.RecordsKept where
  places := (Nat.le_add_right _ _).trans hs.places
  share := (Nat.le_add_right _ _).trans hs.share
  drainAttached := hs.drainAttached
  drainWithin := hs.drainWithin

theorem RecordsKept.congr {s t : State} (hs : s.RecordsKept) (records : t.recv.records = s.recv.records)
    (drain : t.recv.drain = s.recv.drain) : t.RecordsKept := by
  obtain ⟨places, share, attached, within⟩ := hs
  constructor <;> rw [records]
  · exact places
  · exact share
  · rw [drain]; exact attached
  · rw [drain]; exact within

/-- Without an intake, and with a place for a REPLY that is being collected, the invariant is that of the records. -/
theorem RecordsKept.receiveKept {s : State} (hs : s.RecordsKept) (none : s.recv.intake = none)
    (collector : ∀ h, s.line.state = .master h → s.line.kind = some .collect → s.recv.records.length < 10) :
    s.ReceiveKept where
  places := by rw [occupancy_of_none none]; exact hs.places
  share := by rw [routineShare_of_none none]; exact hs.share
  collector := by rw [occupancy_of_none none]; exact collector
  intake := by simp [none]
  drainAttached := hs.drainAttached
  drainWithin := hs.drainWithin

/-- The same for a Line Engine that is not MASTER. -/
theorem RecordsKept.receiveKept_of_unbound {s : State} (hs : s.RecordsKept) (none : s.recv.intake = none)
    (idle : s.line.state.unbound = true) : s.ReceiveKept :=
  hs.receiveKept none fun h master => absurd master (LineState.ne_master_of_unbound idle h)

theorem ReceiveKept.noIntake {s : State} (hs : s.ReceiveKept) (notTaking : ¬ s.takesIn) : s.recv.intake = none :=
  Option.not_isSome_iff_eq_none.mp fun taking => notTaking (hs.intake taking)

theorem ReceiveKept.noIntake_of_master {s : State} (hs : s.ReceiveKept) {h : Handle} (master : s.line.state = .master h) :
    s.recv.intake = none :=
  hs.noIntake (not_takesIn_of_state (by simp [master]) (by simp [master]))

theorem ReceiveKept.noIntake_of_serving {s : State} (hs : s.ReceiveKept) {i : OfferIndex}
    (serving : s.line.state = .listener (.serving i)) : s.recv.intake = none :=
  hs.noIntake (not_takesIn_of_state (by simp [serving]) (by simp [serving]))

/-- R147: a commit takes a place, and attaches the drain cursor of a list that was empty. -/
theorem RecordsKept.commit {s t : State} (hs : s.RecordsKept) {r : ReceiveRecord} (recv : t.recv.records = (s.commit r).recv.records)
    (drain : t.recv.drain = (s.commit r).recv.drain) (place : s.recv.records.length < 12)
    (share : r.routine = true → (s.recv.records.filter ReceiveRecord.routine).length < 10) : t.RecordsKept := by
  have records : t.recv.records = s.recv.records ++ [{ r with arrival := s.recv.arrivalCounter }] := recv
  have cursor : t.recv.drain = if s.recv.records.isEmpty then some 0 else s.recv.drain := drain
  have same : ReceiveRecord.routine { r with arrival := s.recv.arrivalCounter } = r.routine := rfl
  refine ⟨?_, ?_, ?_, fun n q rest attached list => ?_⟩
  · rw [records, List.length_append]
    exact place
  · rw [records, List.filter_append, List.length_append, List.filter_singleton, same]
    have before := hs.share
    cases routine : r.routine with
    | true => simpa using share routine
    | false => simpa using before
  · rw [records, cursor]
    cases empty : s.recv.records with
    | nil => simp
    | cons q rest =>
      have attached : s.recv.drain ≠ none := fun none => by simp [hs.drainAttached.mp none] at empty
      simpa using attached
  · rw [cursor] at attached
    rw [records] at list
    cases old : s.recv.records with
    | nil =>
      simp only [old, List.isEmpty_nil, if_true, Option.some.injEq] at attached
      rw [← attached]
      exact Nat.zero_le _
    | cons p ps =>
      simp only [old, List.isEmpty_cons, List.cons_append, List.cons.injEq] at attached list
      rw [← list.1]
      exact hs.drainWithin n p ps (by simpa using attached) old

/-- R152: with the head gone, the drain cursor stands at byte 0 of the next, or is detached. -/
theorem RecordsKept.takeHead {s : State} (hs : s.RecordsKept) {head : ReceiveRecord} {rest : List ReceiveRecord}
    (cons : s.recv.records = head :: rest) : (s.takeHead head rest).RecordsKept := by
  obtain ⟨places, share, -, -⟩ := hs
  rw [cons] at places share
  refine ⟨(Nat.le_succ _).trans places, ?_, ?_, fun n r more attached list => ?_⟩
  · exact ((List.sublist_cons_self head rest).filter _).length_le.trans share
  · cases rest <;> simp [State.takeHead]
  · have rest_eq : rest = r :: more := list
    have cursor : (if rest.isEmpty then none else some 0) = some n := attached
    rw [rest_eq] at cursor
    simp only [List.isEmpty_cons, Bool.false_eq_true, if_false, Option.some.injEq] at cursor
    omega

/-! ### The pending intake -/

/-- The list and the intake stay, and the Line Engine goes on taking in what it takes in. -/
theorem ReceiveKept.congr {s t : State} (hs : s.ReceiveKept) (records : t.recv.records = s.recv.records)
    (intake : t.recv.intake = s.recv.intake) (drain : t.recv.drain = s.recv.drain)
    (state : t.line.state = s.line.state)
    (kind : ∀ h, s.line.state = .master h → t.line.kind = s.line.kind)
    (takes : s.recv.intake.isSome = true → s.takesIn → t.takesIn) : t.ReceiveKept := by
  have occupancy : t.occupancy = s.occupancy := by simp only [State.occupancy, records, intake]
  have share : t.routineShare = s.routineShare := by simp only [routineShare, records, intake, state]
  have lists := hs.recordsKept.congr records drain
  refine ⟨occupancy ▸ hs.places, share ▸ hs.share, fun h master collect => ?_, fun taking => ?_, lists.drainAttached,
    lists.drainWithin⟩
  · rw [state] at master
    rw [kind h master] at collect
    rw [occupancy]
    exact hs.collector h master collect
  · rw [intake] at taking
    exact takes taking (hs.intake taking)

theorem ReceiveKept.of_blocks {s t : State} (hs : s.ReceiveKept) (recv : t.recv = s.recv) (line : t.line = s.line) :
    t.ReceiveKept :=
  hs.congr (by rw [recv]) (by rw [recv]) (by rw [recv]) (by rw [line]) (fun _ _ => by rw [line])
    fun _ takes => by simpa only [takesIn, line] using takes

/-- The list stays, there was no intake, and the Line Engine ends bound to nothing. -/
theorem ReceiveKept.of_idle {s t : State} (hs : s.ReceiveKept) (none : s.recv.intake = none) (recv : t.recv = s.recv)
    (after : t.line.state.unbound = true) : t.ReceiveKept :=
  (hs.recordsKept.congr (by rw [recv]) (by rw [recv])).receiveKept_of_unbound (by rw [recv, none]) after

theorem discardIntake_recv_intake (s : State) : s.discardIntake.recv.intake = none := by
  unfold discardIntake
  split
  next none => exact none
  next => rfl

/-- R124, R136: an intake begins with a place for the record that it may become. -/
theorem ReceiveKept.takeIn {s : State} (hs : s.ReceiveKept) {l : LineEngine}
    (taker : s.line.state = .listener .addressed ∨ s.line.state = .listener .gathering)
    (state : l.state = s.line.state) (notTaking : ¬ s.takesIn) (taking : (s.withLine l).takesIn)
    (place : s.occupancy < if l.urgentFlag = true ∧ s.line.state = .listener .addressed then 12 else 10) :
    (s.withLine l).beginIntake.ReceiveKept := by
  have none := hs.noIntake notTaking
  have below : s.recv.records.length < 12 ∧
      (¬ (l.urgentFlag = true ∧ s.line.state = .listener .addressed) → s.recv.records.length < 10) := by
    rw [occupancy_of_none none] at place
    split_ifs at place with urgent
    · exact ⟨place, fun routine => absurd urgent routine⟩
    · exact ⟨by omega, fun _ => place⟩
  have routine_le : (s.recv.records.filter ReceiveRecord.routine).length ≤ s.recv.records.length :=
    List.length_filter_le _ _
  have share := hs.recordsKept.share
  refine ⟨?_, ?_, fun h master => ?_, fun _ => taking, hs.drainAttached, hs.drainWithin⟩
  · exact (occupancy_of_some rfl).trans_le below.1
  · refine (routineShare_of_some rfl).trans_le ?_
    simp only [beginIntake_recv_records, beginIntake_line, withLine_recv, withLine_line, state]
    split_ifs with routine
    · have few := below.2 fun ⟨urgent, addressed⟩ => by
        rcases routine with gathering | ordinary
        · simp [addressed] at gathering
        · simp [urgent] at ordinary
      omega
    · omega
  · have listens : s.line.state = .master h := state.symm.trans master
    rcases taker with e | e <;> simp [e] at listens

/-- The record that a pending intake is committed as. -/
def intakeRecord (k : RecordKind) (m : Intake) : ReceiveRecord :=
  { arrival := 0, origin := m.origin, kind := k, urgent := k == .data && m.urgent, tag := m.tag,
    length := m.length, postNumber := 0, cells := m.cells }

theorem commitIntake_of_none {s : State} (none : s.recv.intake = none) (k : RecordKind) : s.commitIntake k = s := by
  simp [commitIntake, none]

theorem commitIntake_of_some {s : State} {m : Intake} (some : s.recv.intake = some m) (k : RecordKind) :
    s.commitIntake k = (({ s with
        pool := s.pool.setOwner m.cells .record
        recv := { s.recv with intake := none } } : State).commit (intakeRecord k m)) := by
  simp only [commitIntake, some]
  rfl

/-- R131, R138: the record takes the place of the intake. -/
theorem ReceiveKept.commitIntake {s : State} (hs : s.ReceiveKept) {k : RecordKind} {l : LineEngine}
    (taker : s.line.state = .listener .addressed ∧ k = .data ∨ s.line.state = .listener .gathering ∧ k = .broadcast)
    (state : l.state = s.line.state) : ((s.commitIntake k).withLine l).ReceiveKept := by
  have notMaster (h : Handle) : l.state ≠ .master h := by
    rw [state]
    rcases taker with ⟨e, -⟩ | ⟨e, -⟩ <;> simp [e]
  cases pending : s.recv.intake with
  | none =>
    rw [commitIntake_of_none pending]
    exact RecordsKept.receiveKept (hs.recordsKept.congr rfl rfl) pending fun h master => absurd master (notMaster h)
  | some m =>
    have places := hs.places
    have share := hs.share
    rw [occupancy_of_some pending] at places
    rw [routineShare_of_some pending] at share
    rw [commitIntake_of_some pending]
    refine RecordsKept.receiveKept (RecordsKept.commit hs.recordsKept (r := intakeRecord k m) rfl rfl places ?_) rfl
      fun h master => absurd master (notMaster h)
    intro routine
    have taken : s.line.state = .listener .gathering ∨ m.urgent = false := by
      rcases taker with ⟨-, rfl⟩ | ⟨gathering, -⟩
      · exact Or.inr (by simpa [ReceiveRecord.routine, intakeRecord] using routine)
      · exact Or.inl gathering
    rw [if_pos taken] at share
    exact share

theorem collected_recv (s : State) (h : Handle) : (s.collected h).recv = (s.commit (s.replyRecord h)).recv := by
  rw [collected_eq, settle_recv]
  rfl

theorem receiveKept_reset : State.reset.ReceiveKept := by
  have lists : State.reset.RecordsKept :=
    ⟨Nat.zero_le _, Nat.zero_le _, by decide, fun n r rest attached => by cases attached⟩
  exact lists.receiveKept_of_unbound rfl rfl

theorem Moves.keeps_receive {s t : State} (m : s.Moves t) : s.ReceiveKept → t.ReceiveKept := by
  induction m with
  | same blocks =>
    exact fun hs => hs.congr blocks.records blocks.intake blocks.drain (by rw [blocks.line])
      (fun _ _ => by rw [blocks.line]) fun _ takes => by simpa only [takesIn, blocks.line] using takes
  | trans _ _ first second => exact fun hs => second (first hs)
  | powerOn | softReset => exact fun _ => receiveKept_reset.of_blocks rfl rfl
  | claim s h quiet _ _ eligible =>
    intro hs
    have none := hs.noIntake (not_takesIn_of_state (by simp [quiet]) (by simp [quiet]))
    refine RecordsKept.receiveKept (hs.recordsKept.congr rfl rfl) none fun g _ collect => ?_
    have kind : (s.entry h).kind = some .collect := (kind_of_header rfl).symm.trans collect
    simp only [State.eligible, kind, occupancy_of_none none, Bool.and_eq_true] at eligible
    obtain ⟨-, place⟩ := eligible
    simpa using place
  | takeHead s head rest cons =>
    intro hs
    have lists := hs.recordsKept.takeHead cons
    have fewer : (s.takeHead head rest).occupancy ≤ s.occupancy := by
      simp only [occupancy, cons, List.length_cons]
      exact Nat.add_le_add_right (Nat.le_succ _) _
    have less : (s.takeHead head rest).routineShare ≤ s.routineShare := by
      simp only [routineShare, cons]
      exact Nat.add_le_add_right ((List.sublist_cons_self head rest).filter _).length_le _
    exact ⟨fewer.trans hs.places, less.trans hs.share,
      fun h master collect => fewer.trans_lt (hs.collector h master collect), hs.intake, lists.drainAttached,
      lists.drainWithin⟩
  | drain s n r rest attached cons below =>
    intro hs
    refine ⟨hs.places, hs.share, hs.collector, hs.intake, ?_, fun k q more moved list => ?_⟩
    · exact iff_of_false (by simp) (by simp [cons])
    · cases moved
      cases cons.symm.trans list
      exact below
  | bitPeriod s => exact fun hs => hs.congr rfl rfl rfl rfl (fun _ _ => rfl) fun _ takes => takes
  | goOn s l on => exact fun hs => hs.congr rfl rfl rfl on.state on.kind on.takes
  | unbound s l _ _ after notTaking => exact fun hs => hs.of_idle (hs.noIntake notTaking) rfl after
  | discardIntake s l _ listens after =>
    intro hs
    refine (hs.recordsKept.congr (by simp) (by simp)).receiveKept s.discardIntake_recv_intake fun h master => ?_
    rcases after with same | ⟨-, idle⟩
    · obtain ⟨r, listens⟩ := listens
      simp [same, listens] at master
    · exact absurd master (LineState.ne_master_of_unbound idle h)
  | takeIn s l _ taker state notTaking taking place => exact fun hs => hs.takeIn taker state notTaking taking place
  | commitIntake s k l _ taker state => exact fun hs => hs.commitIntake taker state
  | serve s i l _ _ _ after notTaking =>
    exact fun hs => RecordsKept.receiveKept (hs.recordsKept.congr rfl rfl) (hs.noIntake notTaking)
      fun h master => by cases after.symm.trans master
  | returnOffer s i l _ serving after =>
    exact fun hs => hs.of_idle (hs.noIntake_of_serving serving) (by simp) after
  | giveOffer s i o l _ serving after =>
    exact fun hs => hs.of_idle (hs.noIntake_of_serving serving) (by simp) after
  | handBack s h l _ master after => exact fun hs => hs.of_idle (hs.noIntake_of_master master) (by simp) after
  | consume s h r l _ master after => exact fun hs => hs.of_idle (hs.noIntake_of_master master) (by simp) after
  | settle s h o l _ master after => exact fun hs => hs.of_idle (hs.noIntake_of_master master) (by simp) after
  | collected s h l _ master collect after =>
    intro hs
    have none := hs.noIntake_of_master master
    have few := hs.collector h master collect
    rw [occupancy_of_none none] at few
    have recv := s.collected_recv h
    have routine_le : (s.recv.records.filter ReceiveRecord.routine).length ≤ s.recv.records.length :=
      List.length_filter_le _ _
    refine RecordsKept.receiveKept_of_unbound (hs.recordsKept.commit (r := s.replyRecord h)
      (congrArg ReceiveList.records recv) (congrArg ReceiveList.drain recv) (by omega) (fun _ => by omega)) ?_ after
    exact (congrArg ReceiveList.intake recv).trans none
  | finish | discard | takeHeadReport => exact fun hs => hs.of_blocks (by simp) (by simp)
  | _ => exact fun hs => hs.of_blocks rfl rfl

end State

/-- Settles O56: every move keeps the places of the Receive List, the place for a REPLY, and the drain cursor. -/
theorem stepKeepsTheReceiveListPlaces : Obligations.StepKeepsTheReceiveListPlaces := by
  unfold Obligations.StepKeepsTheReceiveListPlaces
  intro s t hs ht
  obtain ⟨s', same, moves⟩ := step_moves ht
  exact moves.keeps_receive (hs.congr same.records same.intake same.drain (by rw [same.line])
    (fun _ _ => by rw [same.line]) fun _ takes => by simpa only [State.takesIn, same.line] using takes)

end Sys2Proof.Machine

/-! SUPPORT. The cells: who holds which cell, what becomes of it when cells pass from one owner to another, and what every
finish, allocation and release keeps of the chains. -/

namespace Sys2Proof.Machine

/-- R39: a FINISHED entry has no cells, every other the cells its length needs. -/
structure SendEntry.ChainKept (e : SendEntry) : Prop where
  fits : e.state ≠ .finished → State.chainFits e.cells e.length
  finished : e.state = .finished → e.cells = []

/-- R39: an offer that is not TAKEN has the cells its length needs. -/
def Offer.ChainKept (x : Offer) : Prop := x.state ≠ .taken → State.chainFits x.cells x.length

theorem chainFits_nil : State.chainFits [] 0 := ⟨List.nodup_nil, rfl⟩

theorem SendEntry.chainKept_free : SendEntry.free.ChainKept := ⟨fun _ => chainFits_nil, fun _ => rfl⟩

theorem Offer.chainKept_free : Offer.free.ChainKept := fun _ => chainFits_nil

/-- The cells stay, and with them whether they are those that the state and the length need. -/
def SendEntry.SameChain (e f : SendEntry) : Prop := f.cells = e.cells ∧ (e.ChainKept → f.ChainKept)

theorem SendEntry.SameChain.refl (e : SendEntry) : e.SameChain e := ⟨rfl, id⟩

theorem SendEntry.SameChain.of_live {e f : SendEntry} (cells : f.cells = e.cells) (length : f.length = e.length)
    (before : e.state ≠ .finished) (after : f.state ≠ .finished) : e.SameChain f :=
  ⟨cells, fun kept => ⟨fun _ => by rw [cells, length]; exact kept.fits before, fun finished => absurd finished after⟩⟩

/-- The cells stay, and with them whether they are those that the state and the length need. -/
def Offer.SameChain (x y : Offer) : Prop := y.cells = x.cells ∧ (x.ChainKept → y.ChainKept)

theorem Offer.SameChain.refl (x : Offer) : x.SameChain x := ⟨rfl, id⟩

theorem Offer.SameChain.of_live {x y : Offer} (cells : y.cells = x.cells) (length : y.length = x.length)
    (before : x.state ≠ .taken) : x.SameChain y :=
  ⟨cells, fun kept _ => by rw [cells, length]; exact kept before⟩

namespace State

/-! ### Who holds a cell -/

/-- The cell is in a chain of the owner. -/
def holds (s : State) (o : Owner) (c : CellNumber) : Prop :=
  match o with
  | .free => False
  | .send h => c ∈ (s.entry h).cells
  | .offer i => c ∈ (s.offerAt i).cells
  | .intake => ∃ m, s.recv.intake = some m ∧ c ∈ m.cells
  | .record => ∃ r ∈ s.recv.records, c ∈ r.cells

/-- R40: the cells in a chain of an owner are those that the owner has. -/
def Owned (s : State) : Prop := ∀ o, o ≠ .free → ∀ c, s.holds o c ↔ s.pool.owners[c] = o

/-- The chains are whole: each holder's cells, and no cell in two records. -/
structure ChainsKept (s : State) : Prop where
  owned : s.Owned
  entries : ∀ h, (s.entry h).ChainKept
  offers : ∀ i, (s.offerAt i).ChainKept
  intake : ∀ m, s.recv.intake = some m → chainFits m.cells m.length
  records : ∀ r ∈ s.recv.records, chainFits r.cells r.length
  apart : s.recv.records.Pairwise (fun r q => ∀ c ∈ r.cells, c ∉ q.cells)

/-- The payload of a REPLY that is being collected fits the chain that takes it. -/
def ReplyFits (s : State) : Prop :=
  ∀ h, s.line.state = .master h → s.line.kind = some .collect → s.line.payloadCount ≤ (s.entry h).length

theorem PoolKept.chainsKept {s : State} (hs : s.PoolKept) : s.ChainsKept where
  owned o live c := by
    cases o with
    | free => exact absurd rfl live
    | send h => exact hs.send h c
    | offer i => exact hs.offer i c
    | intake => exact hs.intake c
    | record => exact hs.record c
  entries h := ⟨hs.sendFits h, hs.finishedEmpty h⟩
  offers := hs.offerFits
  intake := hs.intakeFits
  records := hs.recordFits
  apart := hs.recordsApart

theorem ChainsKept.poolKept {s : State} (hs : s.ChainsKept) (reply : s.ReplyFits) : s.PoolKept where
  send h := hs.owned (.send h) (by simp)
  offer i := hs.owned (.offer i) (by simp)
  intake := hs.owned .intake (by simp)
  record := hs.owned .record (by simp)
  recordsApart := hs.apart
  sendFits h := (hs.entries h).fits
  finishedEmpty h := (hs.entries h).finished
  offerFits := hs.offers
  intakeFits := hs.intake
  recordFits := hs.records
  replyFits := reply

/-! ### Cells that pass from one owner to another -/

/-- The cells of L pass from owner a to owner b: an allocation, a hand-over or a release. -/
theorem Owned.move {s t : State} (hs : s.Owned) {L : List CellNumber} {a b : Owner}
    (owners : ∀ c : CellNumber, t.pool.owners[c] = if c ∈ L then b else s.pool.owners[c])
    (start : ∀ c ∈ L, s.pool.owners[c] = a) (ne : a ≠ b)
    (source : a ≠ .free → ∀ c, t.holds a c ↔ s.holds a c ∧ c ∉ L)
    (target : b ≠ .free → ∀ c, t.holds b c ↔ s.holds b c ∨ c ∈ L)
    (others : ∀ o, o ≠ a → o ≠ b → ∀ c, t.holds o c ↔ s.holds o c) : t.Owned := by
  intro o live c
  rw [owners]
  by_cases isSource : o = a
  · subst isSource
    rw [source live, hs o live]
    split
    next mem => simp [mem, ne.symm]
    next out => simp [out]
  by_cases isTarget : o = b
  · subst isTarget
    rw [target live, hs o live]
    split
    next mem => simp [mem]
    next out => simp [out]
  · rw [others o isSource isTarget, hs o live]
    split
    next mem => rw [start c mem]; exact iff_of_false (Ne.symm isSource) (Ne.symm isTarget)
    next => rfl

/-- Only entry h differs. -/
theorem holds_of_entry {s t : State} {h : Handle} (entries : ∀ g, g ≠ h → t.entry g = s.entry g)
    (offers : t.offers = s.offers) (recv : t.recv = s.recv) {o : Owner} (ne : o ≠ .send h) {c : CellNumber} :
    t.holds o c ↔ s.holds o c := by
  cases o with
  | send g => simp only [holds, entries g fun e => ne (e ▸ rfl)]
  | offer i => simp only [holds, offerAt_congr offers]
  | intake | record => simp only [holds, recv]
  | free => rfl

/-- Only offer i differs. -/
theorem holds_of_offer {s t : State} {i : OfferIndex} (queue : t.queue = s.queue)
    (offers : ∀ j, j ≠ i → t.offerAt j = s.offerAt j) (recv : t.recv = s.recv) {o : Owner} (ne : o ≠ .offer i)
    {c : CellNumber} : t.holds o c ↔ s.holds o c := by
  cases o with
  | send h => simp only [holds, entry_congr queue]
  | offer j => simp only [holds, offers j fun e => ne (e ▸ rfl)]
  | intake | record => simp only [holds, recv]
  | free => rfl

/-- Only the Receive List differs. -/
theorem holds_of_recv {s t : State} (queue : t.queue = s.queue) (offers : t.offers = s.offers) {o : Owner}
    (notIntake : o ≠ .intake) (notRecord : o ≠ .record) {c : CellNumber} : t.holds o c ↔ s.holds o c := by
  cases o with
  | send h => simp only [holds, entry_congr queue]
  | offer j => simp only [holds, offerAt_congr offers]
  | intake => exact absurd rfl notIntake
  | record => exact absurd rfl notRecord
  | free => rfl

/-- R48: the chain of entry h is released. -/
theorem Owned.release_entry {s t : State} (hs : s.Owned) {h : Handle} (pool : t.pool = s.pool.release (s.entry h).cells)
    (cells : (t.entry h).cells = []) (entries : ∀ g, g ≠ h → t.entry g = s.entry g) (offers : t.offers = s.offers)
    (recv : t.recv = s.recv) : t.Owned :=
  hs.move (a := .send h) (b := .free) (fun c => by rw [pool]; exact s.pool.owners_release _ c)
    (fun c mem => (hs (.send h) (by simp) c).mp mem) (by simp)
    (fun _ c => by simp [holds, cells]) (fun live => absurd rfl live)
    fun _ ne _ _ => holds_of_entry entries offers recv ne

/-- R51: the chain of offer i is released. -/
theorem Owned.release_offer {s t : State} (hs : s.Owned) {i : OfferIndex}
    (pool : t.pool = s.pool.release (s.offerAt i).cells) (cells : (t.offerAt i).cells = [])
    (offers : ∀ j, j ≠ i → t.offerAt j = s.offerAt j) (queue : t.queue = s.queue) (recv : t.recv = s.recv) : t.Owned :=
  hs.move (a := .offer i) (b := .free) (fun c => by rw [pool]; exact s.pool.owners_release _ c)
    (fun c mem => (hs (.offer i) (by simp) c).mp mem) (by simp)
    (fun _ c => by simp [holds, cells]) (fun live => absurd rfl live)
    fun _ ne _ _ => holds_of_offer queue offers recv ne

/-- Every holder's cells and every owner stay. -/
structure SameChains (s t : State) : Prop where
  owners : ∀ c : CellNumber, t.pool.owners[c] = s.pool.owners[c]
  entries : ∀ h, (s.entry h).SameChain (t.entry h)
  offers : ∀ i, (s.offerAt i).SameChain (t.offerAt i)
  records : t.recv.records = s.recv.records
  intake : t.recv.intake = s.recv.intake

theorem Owned.congr {s t : State} (hs : s.Owned) (same : s.SameChains t) : t.Owned := by
  intro o live c
  rw [same.owners, ← hs o live]
  cases o with
  | send h => simp only [holds, (same.entries h).1]
  | offer i => simp only [holds, (same.offers i).1]
  | intake => simp only [holds, same.intake]
  | record => simp only [holds, same.records]
  | free => rfl

theorem ChainsKept.congr {s t : State} (hs : s.ChainsKept) (same : s.SameChains t) : t.ChainsKept := by
  obtain ⟨owned, entries, offers, intake, records, apart⟩ := hs
  refine ⟨owned.congr same, fun h => (same.entries h).2 (entries h), fun i => (same.offers i).2 (offers i), ?_, ?_, ?_⟩
  · rw [same.intake]; exact intake
  · rw [same.records]; exact records
  · rw [same.records]; exact apart

theorem SameChains.of_blocks {s t : State} (pool : t.pool.owners = s.pool.owners) (queue : t.queue = s.queue)
    (offers : t.offers = s.offers) (records : t.recv.records = s.recv.records) (intake : t.recv.intake = s.recv.intake) :
    s.SameChains t :=
  ⟨fun c => by rw [pool], fun h => by rw [entry_congr queue]; exact .refl _,
    fun i => by rw [offerAt_congr offers]; exact .refl _, records, intake⟩

/-- Only entries change, keeping their chains. -/
theorem SameChains.of_entries {s t : State} (pool : t.pool = s.pool) (offers : t.offers = s.offers)
    (recv : t.recv = s.recv) (entries : ∀ h, (s.entry h).SameChain (t.entry h)) : s.SameChains t :=
  ⟨fun c => by rw [pool], entries, fun i => by rw [offerAt_congr offers]; exact .refl _, by rw [recv], by rw [recv]⟩

theorem SameChains.withEntry {s : State} {h : Handle} {e : SendEntry} (chain : (s.entry h).SameChain e) :
    s.SameChains (s.withEntry h e) := by
  refine .of_entries rfl rfl rfl fun g => ?_
  rw [entry_withEntry]
  split
  next same => rw [same]; exact chain
  next => exact .refl _

/-- Only offer i changes, keeping its chain. -/
theorem SameChains.of_offer {s t : State} {i : OfferIndex} {x : Offer} (pool : t.pool = s.pool)
    (queue : t.queue = s.queue) (recv : t.recv = s.recv) (offers : ∀ j, t.offerAt j = if j = i then x else s.offerAt j)
    (chain : (s.offerAt i).SameChain x) : s.SameChains t := by
  refine ⟨fun c => by rw [pool], fun h => by rw [entry_congr queue]; exact .refl _, fun j => ?_, by rw [recv],
    by rw [recv]⟩
  rw [offers]
  split
  next same => rw [same]; exact chain
  next => exact .refl _

/-! ### Entries that are opened, finished and suspended -/

theorem finish_pool (s : State) (h : Handle) (o : SendOutcome) :
    (s.finish h o).pool = s.pool.release (s.entry h).cells := by
  unfold finish; split <;> rfl

theorem cells_finish_self (s : State) (h : Handle) (o : SendOutcome) : ((s.finish h o).entry h).cells = [] := by
  by_cases room : s.reports.records.length < 8
  · rw [s.entry_finish_of_room h o room]; rfl
  · rw [s.entry_finish_of_full h o room]

theorem chainKept_finish_self (s : State) (h : Handle) (o : SendOutcome) : ((s.finish h o).entry h).ChainKept := by
  by_cases room : s.reports.records.length < 8
  · rw [s.entry_finish_of_room h o room]; exact SendEntry.chainKept_free
  · rw [s.entry_finish_of_full h o room]
    exact ⟨fun going => absurd rfl going, fun _ => rfl⟩

theorem Owned.finish {s : State} (hs : s.Owned) (h : Handle) (o : SendOutcome) : (s.finish h o).Owned :=
  hs.release_entry (s.finish_pool h o) (s.cells_finish_self h o) (fun _ ne => s.entry_finish_ne o ne) (by simp) (by simp)

theorem ChainsKept.finish {s : State} (hs : s.ChainsKept) (h : Handle) (o : SendOutcome) :
    (s.finish h o).ChainsKept := by
  obtain ⟨owned, entries, offers, intake, records, apart⟩ := hs
  refine ⟨owned.finish h o, fun g => ?_, fun i => ?_, ?_, ?_, ?_⟩
  · by_cases same : g = h
    · rw [same]; exact s.chainKept_finish_self h o
    · rw [s.entry_finish_ne o same]; exact entries g
  · rw [offerAt_congr (s := s) (by simp)]; exact offers i
  · rw [finish_recv]; exact intake
  · rw [finish_recv]; exact records
  · rw [finish_recv]; exact apart

theorem ChainsKept.finishAll {s : State} (hs : s.ChainsKept) (l : List Handle) (o : SendOutcome) :
    (s.finishAll l o).ChainsKept := by
  induction l generalizing s with
  | nil => exact hs
  | cons h l ih => exact ih (hs.finish h o)

theorem SameChains.suspend (s : State) (d : Nibble) (n : Byte) : s.SameChains (s.suspend d n) := by
  refine .of_entries rfl rfl rfl fun g => ?_
  rw [entry_suspend]
  rcases holdEntry_state d (s.entry g) with same | ⟨-, going, held⟩
  · rw [same]; exact .refl _
  · rw [held]
    exact .of_live rfl rfl (by rcases going with e | e <;> simp [e]) (by simp)

theorem SameChains.clearFresh (s : State) (d : Nibble) : s.SameChains (s.clearFresh d) :=
  .of_entries rfl rfl rfl fun _ => .refl _

theorem ChainsKept.settle {s : State} (hs : s.ChainsKept) (h : Handle) (o : SendOutcome) :
    (s.settle h o).ChainsKept := by
  have done := hs.finish h o
  unfold State.settle
  split
  · exact done.congr (.suspend _ _ _)
  · split
    · exact done.congr (.clearFresh _ _)
    · exact done
  · split
    · exact done.congr (.clearFresh _ _)
    · exact done
  all_goals exact done

theorem ChainsKept.consume {s : State} (hs : s.ChainsKept) {h : Handle} (flight : (s.entry h).state = .inFlight)
    (r : Reason) : (s.consume h r).ChainsKept := by
  have counted : (s.countAttempt h r).ChainsKept :=
    hs.congr (.withEntry (.of_live rfl rfl (by simp [flight]) (by simp [flight])))
  unfold State.consume
  split_ifs
  · exact counted.finish _ _
  · exact (counted.finish _ _).congr (.suspend _ _ _)
  · exact hs.congr (.withEntry (.of_live rfl rfl (by simp [flight]) (by simp)))

theorem ChainsKept.handBack {s : State} (hs : s.ChainsKept) {h : Handle} (flight : (s.entry h).state = .inFlight) :
    (s.handBack h).ChainsKept := by
  unfold State.handBack
  split
  · exact hs.finish _ _
  · exact hs.congr (.withEntry (.of_live rfl rfl (by simp [flight]) (by simp)))

theorem ChainsKept.discardDest {s : State} (hs : s.ChainsKept) (d : Nibble) : (s.discardDest d).ChainsKept := by
  rw [discardDest_eq]
  exact (hs.finishAll _ _).congr (.of_entries rfl rfl rfl fun _ => .refl _)

/-- R58: the staging buffer of an entry that was FREE takes the lowest free cells. -/
theorem ChainsKept.openSend {s : State} (hs : s.ChainsKept) {h : Handle} (none : (s.entry h).cells = []) {n : Nat}
    (cells : s.pool.grantsHost s.window.settings.reserve n = true) : (s.openSend h n).ChainsKept := by
  have length := s.pool.lowest_length_of_grantsHost _ n cells
  have others (g : Handle) (ne : g ≠ h) : (s.openSend h n).entry g = s.entry g := by rw [entry_openSend, if_neg ne]
  refine ⟨hs.owned.move (a := .free) (b := .send h) (s.pool.owners_allocate n (.send h))
    (fun c => s.pool.free_of_mem_lowest n) (by simp) (fun live => absurd rfl live) (fun _ c => ?_)
    (fun o _ ne _ => holds_of_entry others rfl rfl ne), fun g => ?_, hs.offers, hs.intake, hs.records, hs.apart⟩
  · simp [holds, entry_openSend, none]
  · rw [entry_openSend]
    split
    · exact ⟨fun _ => ⟨s.pool.lowest_nodup n, length⟩, fun finished => by simp at finished⟩
    · exact hs.entries g

/-- R59: a staging buffer that is dropped gives its cells back. -/
theorem ChainsKept.dropStaging {s : State} (hs : s.ChainsKept) (h : Handle) : (s.dropStaging h).ChainsKept := by
  have entry (g : Handle) := s.entry_dropStaging h g
  refine ⟨hs.owned.release_entry rfl (by rw [entry, if_pos rfl]; rfl) (fun g ne => by rw [entry, if_neg ne]) rfl rfl,
    fun g => ?_, hs.offers, hs.intake, hs.records, hs.apart⟩
  rw [entry]
  split
  · exact SendEntry.chainKept_free
  · exact hs.entries g

/-! ### Offers -/

/-- R159: the staging buffer of an offer that was FREE takes the lowest free cells. -/
theorem ChainsKept.openOffer {s : State} (hs : s.ChainsKept) {i : OfferIndex} (none : (s.offerAt i).cells = []) {n : Nat}
    (cells : s.pool.grantsHost s.window.settings.reserve n = true) (a : Nibble) : (s.openOffer i n a).ChainsKept := by
  have length := s.pool.lowest_length_of_grantsHost _ n cells
  have others (j : OfferIndex) (ne : j ≠ i) : (s.openOffer i n a).offerAt j = s.offerAt j := by
    rw [offerAt_openOffer, if_neg ne]
  refine ⟨hs.owned.move (a := .free) (b := .offer i) (s.pool.owners_allocate n (.offer i))
    (fun c => s.pool.free_of_mem_lowest n) (by simp) (fun live => absurd rfl live) (fun _ c => ?_)
    (fun o _ ne _ => holds_of_offer (by rfl) others (by rfl) ne), hs.entries, fun j => ?_, hs.intake, hs.records, hs.apart⟩
  · simp [holds, offerAt_openOffer, none]
  · rw [offerAt_openOffer]
    split
    · exact fun _ => ⟨s.pool.lowest_nodup n, length⟩
    · exact hs.offers j

/-- R51: an offer that leaves gives its cells back. -/
theorem ChainsKept.dropOffer {s : State} (hs : s.ChainsKept) (i : OfferIndex) {x : Offer} (none : x.cells = [])
    (kept : x.ChainKept) : (s.dropOffer i x).ChainsKept := by
  have offer (j : OfferIndex) := s.offerAt_dropOffer i j x
  refine ⟨hs.owned.release_offer rfl (by rw [offer, if_pos rfl, none]) (fun j ne => by rw [offer, if_neg ne]) rfl rfl,
    hs.entries, fun j => ?_, hs.intake, hs.records, hs.apart⟩
  rw [offer]
  split
  · exact kept
  · exact hs.offers j

theorem ChainsKept.returnOffer {s : State} (hs : s.ChainsKept) {i : OfferIndex}
    (serving : (s.offerAt i).state = .serving) : (s.returnOffer i).ChainsKept := by
  unfold State.returnOffer
  split
  · exact hs.dropOffer i rfl Offer.chainKept_free
  · exact hs.congr (.of_offer rfl rfl rfl (fun j => s.offerAt_withOffer i j _) (.of_live rfl rfl (by simp [serving])))

theorem ChainsKept.giveOffer {s : State} (hs : s.ChainsKept) (i : OfferIndex) (o : Nibble) :
    (s.giveOffer i o).ChainsKept :=
  hs.dropOffer i rfl fun notTaken => absurd rfl notTaken

/-! ### The intake and the records -/

/-- R49: the cells of a discarded intake are freed. -/
theorem ChainsKept.discardIntake {s : State} (hs : s.ChainsKept) : s.discardIntake.ChainsKept := by
  unfold State.discardIntake
  split
  next => exact hs
  next m pending =>
    refine ⟨hs.owned.move (a := .intake) (b := .free) (s.pool.owners_release m.cells)
      (fun c mem => (hs.owned .intake (by simp) c).mp ⟨m, pending, mem⟩) (by simp) (fun _ c => ?_)
      (fun live => absurd rfl live) (fun o ne _ c => ?_), hs.entries, hs.offers, fun _ none => (by cases none),
      hs.records, hs.apart⟩
    · simp [holds, pending]
    · by_cases isRecord : o = .record
      · rw [isRecord]; rfl
      · exact holds_of_recv (by rfl) (by rfl) ne isRecord

/-- R124, R136: the intake takes the lowest free cells, with the reserve. -/
theorem ChainsKept.beginIntake {s : State} (hs : s.ChainsKept) (none : s.recv.intake = none)
    (cells : s.pool.grantsIntake s.line.lengthField = true) : s.beginIntake.ChainsKept := by
  have length := s.pool.lowest_length_of_grantsIntake _ cells
  refine ⟨hs.owned.move (a := .free) (b := .intake) (s.pool.owners_allocate _ .intake)
    (fun c => s.pool.free_of_mem_lowest _) (by simp) (fun live => absurd rfl live) (fun _ c => ?_)
    (fun o _ ne c => ?_), hs.entries, hs.offers, fun m begun => ?_, hs.records, hs.apart⟩
  · simp [holds, none, State.beginIntake]
  · by_cases isRecord : o = .record
    · rw [isRecord]; rfl
    · exact holds_of_recv (by rfl) (by rfl) ne isRecord
  · cases begun
    exact ⟨s.pool.lowest_nodup _, length⟩

theorem commit_records (s : State) (r : ReceiveRecord) :
    (s.commit r).recv.records = s.recv.records ++ [{ r with arrival := s.recv.arrivalCounter }] := rfl

theorem holds_commit_record (s : State) (r : ReceiveRecord) (c : CellNumber) :
    (s.commit r).holds .record c ↔ s.holds .record c ∨ c ∈ r.cells := by
  simp only [holds, commit_records, List.mem_append, List.mem_singleton, or_and_right, exists_or, exists_eq_left]

/-- A record whose cells no other has joins the list: every chain stays whole. -/
theorem ChainsKept.fits_commit {s : State} (hs : s.ChainsKept) {r : ReceiveRecord} (fits : chainFits r.cells r.length)
    (apart : ∀ c ∈ r.cells, s.pool.owners[c] ≠ .record) :
    (∀ q ∈ (s.commit r).recv.records, chainFits q.cells q.length)
      ∧ (s.commit r).recv.records.Pairwise (fun p q => ∀ c ∈ p.cells, c ∉ q.cells) := by
  rw [commit_records]
  refine ⟨fun q mem => ?_, List.pairwise_append.mpr ⟨hs.apart, List.pairwise_singleton _ _, fun p mem q new c inp inq => ?_⟩⟩
  · rcases List.mem_append.mp mem with old | new
    · exact hs.records q old
    · rw [List.mem_singleton.mp new]; exact fits
  · rw [List.mem_singleton.mp new] at inq
    exact apart c inq ((hs.owned .record (by simp) c).mp ⟨p, mem, inp⟩)

/-- R46: the cells of the intake pass to its record. -/
theorem ChainsKept.commitIntake {s : State} (hs : s.ChainsKept) (k : RecordKind) : (s.commitIntake k).ChainsKept := by
  cases pending : s.recv.intake with
  | none => rw [commitIntake_of_none pending]; exact hs
  | some m =>
    have taken (c : CellNumber) (mem : c ∈ m.cells) : s.pool.owners[c] = .intake :=
      (hs.owned .intake (by simp) c).mp ⟨m, pending, mem⟩
    obtain ⟨records, apart⟩ := hs.fits_commit (r := intakeRecord k m) (hs.intake m pending)
      fun c mem => by simp [taken c mem]
    rw [commitIntake_of_some pending]
    refine ⟨hs.owned.move (a := .intake) (b := .record) (s.pool.owners_setOwner m.cells .record) taken (by simp)
      (fun _ c => ?_) (fun _ c => ?_) (fun o notIntake notRecord _ => holds_of_recv (by rfl) (by rfl) notIntake notRecord),
      hs.entries, hs.offers, fun _ none => (by cases none), records, apart⟩
    · simp [holds, pending]
    · exact s.holds_commit_record (intakeRecord k m) c

/-- R50: the cells of the head record are freed. -/
theorem ChainsKept.takeHead {s : State} (hs : s.ChainsKept) {head : ReceiveRecord} {rest : List ReceiveRecord}
    (cons : s.recv.records = head :: rest) : (s.takeHead head rest).ChainsKept := by
  obtain ⟨owned, entries, offers, intake, records, apart⟩ := hs
  rw [cons] at records apart
  obtain ⟨headApart, restApart⟩ := List.pairwise_cons.mp apart
  refine ⟨owned.move (a := .record) (b := .free) (s.pool.owners_release head.cells)
    (fun c mem => (owned .record (by simp) c).mp ⟨head, by simp [cons], mem⟩) (by simp) (fun _ c => ?_)
    (fun live => absurd rfl live) (fun o ne _ c => ?_), entries, offers, intake,
    fun r mem => records r (List.mem_cons_of_mem _ mem), restApart⟩
  · simp only [holds, takeHead_recv_records, cons, List.mem_cons, or_and_right, exists_or, exists_eq_left]
    constructor
    · rintro ⟨r, mem, inr⟩
      exact Or.inr ⟨⟨r, mem, inr⟩, fun inHead => headApart r mem c inHead inr⟩
    · rintro (⟨inHead, out⟩ | ⟨inRest, -⟩)
      · exact absurd inHead out
      · exact inRest
  · by_cases isIntake : o = .intake
    · rw [isIntake]; rfl
    · exact holds_of_recv (by rfl) (by rfl) isIntake ne

theorem cellsFor_mono {m n : Nat} (le : m ≤ n) : cellsFor m ≤ cellsFor n :=
  Nat.div_le_div_right (Nat.add_le_add_right le 31)

/-- R47, R96: the first cells of the collecting entry's chain pass to the REPLY record, the others are freed. -/
theorem ChainsKept.collected {s : State} (hs : s.ChainsKept) {h : Handle} (flight : (s.entry h).state = .inFlight)
    (within : s.line.payloadCount ≤ (s.entry h).length) : (s.collected h).ChainsKept := by
  obtain ⟨chainNodup, chainLength⟩ := (hs.entries h).fits (by simp [flight])
  have taken (c : CellNumber) (mem : c ∈ s.replyCells h) : s.pool.owners[c] = .send h :=
    (hs.owned (.send h) (by simp) c).mp (List.mem_of_mem_take mem)
  have fits : chainFits (s.replyCells h) s.line.payloadCount := by
    refine ⟨chainNodup.sublist (List.take_sublist _ _), ?_⟩
    rw [replyCells, List.length_take, chainLength]
    exact min_eq_left (cellsFor_mono within)
  obtain ⟨records, apart⟩ := hs.fits_commit (r := s.replyRecord h) fits fun c mem => by simp [taken c mem]
  have others (g : Handle) (ne : g ≠ h) : (s.replied h).entry g = s.entry g := by rw [entry_replied, if_neg ne]
  have surplus (c : CellNumber) : c ∈ (s.entry h).cells.drop (cellsFor s.line.payloadCount)
      ↔ c ∈ (s.entry h).cells ∧ c ∉ s.replyCells h := by
    have parts := List.take_append_drop (cellsFor s.line.payloadCount) (s.entry h).cells
    have nodup := parts.symm ▸ chainNodup
    have disjoint := (List.nodup_append'.mp nodup).2.2
    constructor
    · exact fun mem => ⟨List.mem_of_mem_drop mem, fun first => disjoint first mem⟩
    · rintro ⟨mem, out⟩
      rw [← parts, List.mem_append] at mem
      exact mem.resolve_left out
  have owned : (s.replied h).Owned := by
    refine hs.owned.move (a := .send h) (b := .record) (s.pool.owners_setOwner (s.replyCells h) .record) taken (by simp)
      (fun _ c => ?_) (fun _ c => s.holds_commit_record (s.replyRecord h) c) (fun o ne notRecord c => ?_)
    · simp only [holds, entry_replied, if_pos, surplus]
    · cases o with
      | send g => simp only [holds, others g fun e => ne (e ▸ rfl)]
      | record => exact absurd rfl notRecord
      | offer | intake | free => rfl
  have recv := s.collected_recv h
  refine ⟨owned.finish h .collected, fun g => ?_, ?_, ?_, ?_, ?_⟩
  · by_cases same : g = h
    · rw [same]; exact (s.replied h).chainKept_finish_self h .collected
    · have entry : (s.collected h).entry g = s.entry g := ((s.replied h).entry_finish_ne .collected same).trans (others g same)
      rw [entry]; exact hs.entries g
  · exact fun i => by rw [offerAt_congr (s.collected_offers h)]; exact hs.offers i
  · rw [recv]; exact hs.intake
  · rw [recv]; exact records
  · rw [recv]; exact apart

end State
end Sys2Proof.Machine

/-! SUPPORT. The invariant of the cells, over the moves. -/

namespace Sys2Proof.Machine
namespace State

/-! ### The payload of a REPLY -/

/-- The Line Engine goes on with the exchange, and the entry in flight keeps its length. -/
theorem ReplyFits.congr {s t : State} (hs : s.ReplyFits) (hq : s.QueueKept) (line : t.line = s.line)
    (length : ∀ h, (s.entry h).state = .inFlight → (t.entry h).length = (s.entry h).length) : t.ReplyFits := by
  intro h master collect
  rw [line] at master collect ⊢
  rw [length h (hq.master_flight master).1]
  exact hs h master collect

theorem ReplyFits.of_queue {s t : State} (hs : s.ReplyFits) (line : t.line = s.line) (queue : t.queue = s.queue) :
    t.ReplyFits := by
  intro h master collect
  rw [line] at master collect ⊢
  rw [entry_congr queue]
  exact hs h master collect

/-- Only entry h changes, and it is not in flight or keeps its length. -/
theorem ReplyFits.of_entry {s t : State} (hs : s.ReplyFits) (hq : s.QueueKept) {h : Handle} {e : SendEntry}
    (line : t.line = s.line) (entries : ∀ g, t.entry g = if g = h then e else s.entry g)
    (changed : (s.entry h).state ≠ .inFlight ∨ e.length = (s.entry h).length) : t.ReplyFits := by
  refine hs.congr hq line fun g flight => ?_
  rw [entries]
  split
  next same =>
    rw [same] at flight ⊢
    exact changed.resolve_left fun other => other flight
  next => rfl

theorem replyFits_of_unbound {s : State} (idle : s.line.state.unbound = true) : s.ReplyFits :=
  fun h master => absurd master (LineState.ne_master_of_unbound idle h)

theorem replyFits_of_listener {s : State} {r : Role} (listens : s.line.state = .listener r) : s.ReplyFits :=
  fun h master => by cases listens.symm.trans master

/-- A master goes on with its kind and with a payload that fits. -/
theorem ReplyFits.goOn {s : State} (hs : s.ReplyFits) {l : LineEngine} (on : s.GoesOn l) : (s.withLine l).ReplyFits := by
  intro h master collect
  have before : s.line.state = .master h := on.state.symm.trans master
  have kind : s.line.kind = some .collect := (on.kind h before).symm.trans collect
  exact on.count h before kind (hs h before kind)

theorem replyFits_claim (s : State) (h : Handle) : (s.claim h).ReplyFits := by
  intro g _ collect
  rw [payloadCount_of_header rfl collect]
  exact Nat.zero_le _

/-! ### The moves -/

theorem chainsKept_reset : State.reset.ChainsKept where
  owned o live c := by
    have free : State.reset.pool.owners[c] = .free := by revert c; decide
    rw [free]
    refine iff_of_false (fun held => ?_) (Ne.symm live)
    cases o with
    | free => exact live rfl
    | send h => simp [holds, entry_reset, SendEntry.free] at held
    | offer i => simp [holds, offerAt_reset, Offer.free] at held
    | intake | record => simp [holds, State.reset, ReceiveList.reset] at held
  entries h := by rw [entry_reset]; exact SendEntry.chainKept_free
  offers i := by rw [offerAt_reset]; exact Offer.chainKept_free
  intake m pending := by cases pending
  records r mem := by cases mem
  apart := .nil

theorem Moves.keeps_chains {s t : State} (m : s.Moves t) :
    s.QueueKept → s.OffersKept → s.ReceiveKept → s.ChainsKept → s.ReplyFits → t.ChainsKept ∧ t.ReplyFits := by
  induction m with
  | same blocks =>
    exact fun _ _ _ hs hr => ⟨hs.congr (.of_blocks (by rw [blocks.pool]) blocks.queue blocks.offers blocks.records
      blocks.intake), hr.of_queue blocks.line blocks.queue⟩
  | trans m _ first second =>
    intro hq ho hv hs hr
    obtain ⟨chains, reply⟩ := first hq ho hv hs hr
    exact second (m.keeps_queue hq) (m.keeps_offers ho) (m.keeps_receive hv) chains reply
  | powerOn | softReset =>
    exact fun _ _ _ _ _ => ⟨chainsKept_reset.congr (.of_blocks rfl rfl rfl rfl rfl), replyFits_of_unbound rfl⟩
  | openSend s h n _ _ slot cells =>
    exact fun hq _ _ hs hr => ⟨hs.openSend (by rw [hq.free h slot]; rfl) cells,
      hr.of_entry hq rfl (fun g => s.entry_openSend h g n) (.inl (by simp [slot]))⟩
  | post s h k staging =>
    have going : (s.postedEntry h k).state ≠ .finished := by unfold postedEntry; simp only; split <;> simp
    refine fun hq _ _ hs hr => ⟨hs.congr (.of_entries rfl rfl rfl fun g => ?_),
      hr.of_entry hq rfl (fun g => s.entry_postEntry h g k) (.inl (by simp [staging]))⟩
    rw [entry_postEntry]
    split
    next same => rw [same]; exact .of_live rfl rfl (by simp [staging]) going
    next => exact .refl _
  | dropStaging s h staging =>
    exact fun hq _ _ hs hr => ⟨hs.dropStaging h,
      hr.of_entry hq rfl (fun g => s.entry_dropStaging h g) (.inl (by simp [staging]))⟩
  | finish s h o waits =>
    refine fun hq _ _ hs hr => ⟨hs.finish h o, hr.congr hq (by simp) fun g flight => ?_⟩
    have ne : g ≠ h := by
      rintro rfl
      rcases waits with e | e | e <;> simp [e] at flight
    rw [s.entry_finish_ne o ne]
  | cancelPending s h flight =>
    exact fun hq _ _ hs hr => ⟨hs.congr (.withEntry (.of_live rfl rfl (by simp [flight]) (by simp [flight]))),
      hr.of_entry hq rfl (fun g => s.entry_withEntry h g _) (.inr rfl)⟩
  | halted => exact fun hq _ _ hs hr =>
      ⟨hs.congr (.of_entries rfl rfl rfl fun _ => .refl _), hr.congr hq rfl fun _ _ => rfl⟩
  | resume s d =>
    refine fun hq _ _ hs hr => ⟨hs.congr (.of_entries rfl rfl rfl fun g => ?_), hr.congr hq rfl fun g flight => ?_⟩ <;>
      rw [entry_resumeDest] <;> rcases resumeEntry_state d (s.entry g) with ⟨same, -⟩ | ⟨-, held, ready⟩
    · rw [same]; exact .refl _
    · rw [ready]; exact .of_live rfl rfl (by simp [held]) (by simp)
    · rw [same]
    · simp [held] at flight
  | discard s d =>
    refine fun hq _ _ hs hr => ⟨hs.discardDest d, hr.congr hq (by simp) fun g flight => ?_⟩
    rw [s.entry_discardDest_of_notMem]
    intro mem
    obtain ⟨-, held, -⟩ := (s.mem_heldTo d g).mp mem
    simp [held] at flight
  | backoffEnds s h backoff =>
    exact fun hq _ _ hs hr => ⟨hs.congr (.withEntry (.of_live rfl rfl (by simp [backoff]) (by simp))),
      hr.of_entry hq rfl (fun g => s.entry_withEntry h g _) (.inr rfl)⟩
  | claim s h _ _ waits =>
    intro hq _ _ hs hr
    have unfinished := (hq.orderMember h).mp waits
    have going : (s.entry h).state ≠ .finished := by
      intro finished
      simp [finished, EntryState.unfinished] at unfinished
    refine ⟨hs.congr (.of_entries rfl rfl rfl fun g => ?_), s.replyFits_claim h⟩
    rw [entry_claim]
    split
    next same => rw [same]; exact .of_live rfl rfl going (by simp)
    next => exact .refl _
  | takeHead s head rest cons =>
    exact fun _ _ _ hs hr => ⟨hs.takeHead cons, hr.of_queue rfl rfl⟩
  | takeHeadReport s head rest =>
    refine fun hq _ _ hs hr => ⟨hs.congr (.of_entries (by simp) (by simp) (by simp) fun g => ?_),
      hr.congr hq (by simp) fun g flight => ?_⟩ <;>
      rcases s.entry_takeHeadReport_cases rest g with same | ⟨waits, freed⟩
    · rw [same]; exact .refl _
    · rw [freed]
      exact ⟨((hs.entries g).finished ((hq.waitingMember g).mp waits)).symm, fun _ => SendEntry.chainKept_free⟩
    · rw [same]
    · simp [(hq.waitingMember g).mp waits] at flight
  | openOffer s i n a _ slot cells =>
    exact fun _ ho _ hs hr => ⟨hs.openOffer (by rw [ho.free i slot]; rfl) cells a, hr.of_queue rfl rfl⟩
  | postOffer s i staging =>
    exact fun _ _ _ hs hr => ⟨hs.congr (.of_offer rfl rfl rfl (fun j => s.offerAt_postOffer i j)
      (.of_live rfl rfl (by simp [staging]))), hr.of_queue rfl rfl⟩
  | withdrawStaging s i =>
    exact fun _ _ _ hs hr => ⟨(hs.dropOffer i rfl Offer.chainKept_free).congr (.of_blocks rfl rfl rfl rfl rfl),
      hr.of_queue rfl rfl⟩
  | withdrawPosted s i => exact fun _ _ _ hs hr => ⟨hs.dropOffer i rfl Offer.chainKept_free, hr.of_queue rfl rfl⟩
  | withdrawServing s i serving =>
    exact fun _ _ _ hs hr => ⟨hs.congr (.of_offer rfl rfl rfl (fun j => s.offerAt_withOffer i j _)
      (.of_live rfl rfl (by simp [serving]))), hr.of_queue rfl rfl⟩
  | clearOffer s i taken =>
    exact fun _ ho _ hs hr => ⟨hs.congr (.of_offer rfl rfl rfl (fun j => s.offerAt_withOffer i j _)
      ⟨(ho.taken i taken).symm, fun _ => Offer.chainKept_free⟩), hr.of_queue rfl rfl⟩
  | write s cells k v =>
    exact fun _ _ _ hs hr => ⟨hs.congr (.of_blocks (s.pool.writeByte_owners cells k v) rfl rfl rfl rfl),
      hr.of_queue rfl rfl⟩
  | bitPeriod s =>
    have counted (e : SendEntry) : e.SameChain e.countDown := by
      unfold SendEntry.countDown
      split
      · exact ⟨rfl, fun kept => ⟨kept.fits, kept.finished⟩⟩
      · exact .refl _
    intro hq _ _ hs hr
    refine ⟨hs.congr (.of_entries rfl rfl rfl fun g => by rw [entry_bitPeriod]; exact counted _),
      fun g master collect => ?_⟩
    have flight := (hq.master_flight master).1
    rw [entry_bitPeriod, countDown_of_ne _ (by simp [flight])]
    exact hr g master collect
  | goOn s l on => exact fun _ _ _ hs hr => ⟨hs.congr (.of_blocks rfl rfl rfl rfl rfl), hr.goOn on⟩
  | unbound s l _ _ after =>
    exact fun _ _ _ hs _ => ⟨hs.congr (.of_blocks rfl rfl rfl rfl rfl), replyFits_of_unbound after⟩
  | discardIntake s l _ listens after =>
    intro _ _ _ hs _
    refine ⟨hs.discardIntake.congr (.of_blocks rfl rfl rfl rfl rfl), ?_⟩
    rcases after with same | ⟨-, idle⟩
    · obtain ⟨r, listens⟩ := listens
      exact replyFits_of_listener (same.trans listens)
    · exact replyFits_of_unbound idle
  | takeIn s l _ taker state notTaking _ _ cells =>
    intro _ _ hv hs _
    refine ⟨ChainsKept.beginIntake (hs.congr (.of_blocks rfl rfl rfl rfl rfl)) (hv.noIntake notTaking) cells, ?_⟩
    rcases taker with e | e <;> exact replyFits_of_listener (state.trans e)
  | commitIntake s k l _ taker state =>
    refine fun _ _ _ hs _ => ⟨(hs.commitIntake k).congr (.of_blocks rfl rfl rfl rfl rfl), ?_⟩
    rcases taker with ⟨e, -⟩ | ⟨e, -⟩ <;> exact replyFits_of_listener (state.trans e)
  | serve s i l _ _ posted after =>
    exact fun _ _ _ hs _ => ⟨hs.congr (.of_offer rfl rfl rfl (fun j => s.offerAt_withOffer i j _)
      (.of_live rfl rfl (by simp [posted]))), replyFits_of_listener after⟩
  | returnOffer s i l _ serving after =>
    exact fun _ ho _ hs _ => ⟨(hs.returnOffer ((ho.serving i).mpr serving)).congr (.of_blocks rfl rfl rfl rfl rfl),
      replyFits_of_unbound after⟩
  | giveOffer s i o l _ _ after =>
    exact fun _ _ _ hs _ => ⟨(hs.giveOffer i o).congr (.of_blocks rfl rfl rfl rfl rfl), replyFits_of_unbound after⟩
  | handBack s h l _ master after =>
    exact fun hq _ _ hs _ => ⟨(hs.handBack (hq.master_flight master).1).congr (.of_blocks rfl rfl rfl rfl rfl),
      replyFits_of_unbound after⟩
  | consume s h r l _ master after =>
    exact fun hq _ _ hs _ => ⟨(hs.consume (hq.master_flight master).1 r).congr (.of_blocks rfl rfl rfl rfl rfl),
      replyFits_of_unbound after⟩
  | settle s h o l _ _ after =>
    exact fun _ _ _ hs _ => ⟨(hs.settle h o).congr (.of_blocks rfl rfl rfl rfl rfl), replyFits_of_unbound after⟩
  | collected s h l _ master collect after =>
    exact fun hq _ _ hs hr => ⟨(hs.collected (hq.master_flight master).1 (hr h master collect)).congr
      (.of_blocks rfl rfl rfl rfl rfl), replyFits_of_unbound after⟩
  | store | drain | fill =>
    exact fun _ _ _ hs hr => ⟨hs.congr (.of_blocks rfl rfl rfl rfl rfl), hr.of_queue rfl rfl⟩

end State

/-- Settles O60: every move keeps each cell with the one chain of its owner, and every chain whole. -/
theorem stepKeepsEveryCellInOneChain : Obligations.StepKeepsEveryCellInOneChain := by
  unfold Obligations.StepKeepsEveryCellInOneChain
  intro s t hq ho hv hs ht
  obtain ⟨s', same, moves⟩ := step_moves ht
  obtain ⟨chains, reply⟩ := moves.keeps_chains
    (hq.congr same.queue same.reports fun h => by rw [same.line])
    (ho.congr same.offers fun i => by rw [same.line])
    (hv.congr same.records same.intake same.drain (by rw [same.line]) (fun _ _ => by rw [same.line])
      fun _ takes => by simpa only [State.takesIn, same.line] using takes)
    (hs.chainsKept.congr (.of_blocks (by rw [same.pool]) same.queue same.offers same.records same.intake))
    (State.ReplyFits.of_queue hs.replyFits same.line same.queue)
  exact chains.poolKept reply

/-- Settles O50: power-on makes every block empty and every timer stopped. -/
theorem invariantsHoldAtReset : Obligations.InvariantsHoldAtReset := by
  unfold Obligations.InvariantsHoldAtReset
  exact ⟨rfl, State.settingsKept_reset, State.engineKept_reset, State.queueKept_reset, State.offersKept_reset,
    State.receiveKept_reset, State.stagingKept_reset, State.suspensionKept_reset, State.postedKept_reset,
    State.chainsKept_reset.poolKept (State.replyFits_of_unbound rfl)⟩

end Sys2Proof.Machine

/-! SUPPORT. The step, the resets and the control commands: what each case of a shared operation gives, the range of a
configuration item, and the statements about the queue of commands, the resets, CONFIGURE, LINE ON and LINE OFF. -/

namespace Sys2Proof.Machine
namespace State

/-! ### The cases of the operations that end an exchange -/

theorem discardIntake_of_none {s : State} (none : s.recv.intake = none) : s.discardIntake = s := by
  simp [discardIntake, none]

theorem discardIntake_of_some {s : State} {m : Intake} (some : s.recv.intake = some m) :
    s.discardIntake = { s with pool := s.pool.release m.cells, recv := { s.recv with intake := none } } := by
  simp [discardIntake, some]

theorem handBack_of_pending {s : State} {h : Handle} (pending : (s.entry h).cancelPending = true) :
    s.handBack h = s.finish h .cancelled := if_pos pending

theorem handBack_of_going {s : State} {h : Handle} (going : (s.entry h).cancelPending = false) :
    s.handBack h = s.withEntry h { s.entry h with state := .ready } := if_neg (by simp [going])

theorem giveUp_of_listener {s : State} {r : Role} (listens : s.line.state = .listener r)
    (notServing : ∀ i, r ≠ .serving i) : s.giveUp = s.discardIntake := by
  cases r with
  | serving i => exact absurd rfl (notServing i)
  | undecided | addressed | gathering | bystander => simp [giveUp, listens]

theorem giveUp_of_serving {s : State} {i : OfferIndex} (serving : s.line.state = .listener (.serving i)) :
    s.giveUp = s.discardIntake.returnOffer i := by simp [giveUp, serving]

theorem giveUp_of_joining {s : State} (joining : s.line.state = .joining) : s.giveUp = s := by
  simp [giveUp, joining]

/-! ### The expiries that are due -/

theorem quiet_mem_due (s : State) : Expiry.quiet ∈ s.due ↔
    s.line.state = .settling ∧ ∃ n, s.line.quietTimer = some n ∧ s.window.settings.quietInterval ≤ n := by
  simp [due, reached_iff]

theorem longQuiet_mem_due (s : State) : Expiry.longQuiet ∈ s.due ↔
    ∃ n, s.line.longQuietTimer = some n ∧ 3 * s.window.settings.quietInterval ≤ n := by
  simp [due, reached_iff]

theorem claimLimit_mem_due (s : State) : Expiry.claimLimit ∈ s.due ↔
    (s.line.state = .joining ∨ ∃ r, s.line.state = .listener r) ∧ ∃ n, s.line.claimTimer = some n ∧ 1280 ≤ n := by
  have named (b : Bool) : Expiry.claimLimit ∈ (if b then [Expiry.claimLimit] else []) ↔ b = true := by cases b <;> simp
  have limit : Machine.claimLimit = 1280 := rfl
  simp [due, named, reached_iff, claimTimerRuns_iff, limit]

theorem backoff_mem_due (s : State) (h : Handle) : Expiry.backoff h ∈ s.due ↔
    (s.entry h).state = .backoff ∧ (s.entry h).backoff = 0 := by
  simp [due]

theorem idle_of_none {s : State} (none : s.due = []) : s.idle = s.bitPeriod := by simp [idle, none]

theorem idle_of_one {s : State} {e : Expiry} (one : s.due = [e]) : s.idle = s.expire e := by simp [idle, one]

/-- R70: of several expiries that are due together one is taken. -/
theorem idle_of_several {s : State} (several : 2 ≤ s.due.length) :
    ∃ e ∈ s.due, s.idle = { s with expiryCount := s.expiryCount + 1 }.expire e := by
  rcases list : s.due with - | ⟨e, - | ⟨f, es⟩⟩
  · simp [list] at several
  · simp [list] at several
  · have below : Config.expiryChoice s.expiryCount % ((f :: es).length + 1) < (e :: f :: es).length :=
      Nat.mod_lt _ (Nat.succ_pos _)
    refine ⟨_, List.getElem_mem below, ?_⟩
    simp only [idle, list, List.getElem?_eq_getElem below, Option.getD_some]

end State

theorem step_of_pending_nil {s : State} (none : s.pending = []) : step s = .next s.idle := by
  unfold step; rw [none]

/-- Settles O1: the definition of the step on a queue that is not empty. -/
theorem stepRunsTheFrontCommand : Obligations.StepRunsTheFrontCommand := by
  unfold Obligations.StepRunsTheFrontCommand
  exact fun _ _ _ => rfl

/-- Settles O2: which expiries are due, timer by timer; then the step with none, with one and with several due. -/
theorem idleStepPassesTimeOrTakesADueExpiry : Obligations.IdleStepPassesTimeOrTakesADueExpiry := by
  unfold Obligations.IdleStepPassesTimeOrTakesADueExpiry
  refine ⟨fun s => ⟨s.quiet_mem_due, s.longQuiet_mem_due, s.claimLimit_mem_due, s.backoff_mem_due⟩, fun s empty => ?_⟩
  rw [step_of_pending_nil empty]
  have sole {e : Expiry} (one : s.due = [e]) : (Host.Outcome.next s.idle : Res) = .next (s.expire e) :=
    congrArg _ (State.idle_of_one one)
  refine ⟨fun none => ?_, sole, sole, sole, fun h => sole, fun several => ?_⟩
  · rw [State.idle_of_none none]; rfl
  · obtain ⟨e, mem, taken⟩ := State.idle_of_several several
    exact ⟨e, mem, congrArg _ taken⟩

/-! ### Resets -/

/-- TABLE 1-4 and the power-on values hold whatever the cells contain, whatever the settings, and whatever the model's
own fields are. -/
theorem powerOnValues_of_reset (mem : Memory) (settings : Settings) (busData : Byte) (count : Nat) (pending : List Instr) :
    State.PowerOnValues
      { State.reset with
        pool := { Pool.reset with mem := mem }
        window := { HostWindow.reset with settings := settings }
        busData := busData, expiryCount := count, pending := pending } where
  line := rfl
  owners := show ∀ c : CellNumber, Pool.reset.owners[c] = .free by decide
  freeCount := show Pool.reset.freeCount = 64 by decide
  entries := show ∀ h, State.reset.entry h = .free by decide
  queue := ⟨rfl, rfl, rfl⟩
  dests := show ∀ d, State.reset.dest d = .reset by decide
  recv := ⟨rfl, rfl, rfl, rfl⟩
  sources := show ∀ o, State.reset.source o = .reset by decide
  offers := show ∀ i, State.reset.offerAt i = .free by decide
  offerOrder := rfl
  reports := rfl
  events := rfl
  window := ⟨rfl, rfl, rfl, rfl, rfl, rfl, rfl⟩
  outputs :=
    show State.reset.eventFlags = 0 ∧ State.reset.int = false ∧ State.reset.fillRequest = false
      ∧ State.reset.drainRequest = false ∧ State.reset.pullsLcl = false ∧ State.reset.drivesLck = false
      ∧ State.reset.lmdFrame = 0xFF ∧ State.reset.lrdFrame = 0xFF ∧ State.reset.statusByte = 0 by decide

/-- Settles O4: the values of reset, which power-on and SOFT RESET give with the model's own fields, and SOFT RESET with
the settings and the bytes of the cells, as they were. -/
theorem resetsBringEveryBlockToItsPowerOnValues : Obligations.ResetsBringEveryBlockToItsPowerOnValues := by
  unfold Obligations.ResetsBringEveryBlockToItsPowerOnValues
  exact ⟨⟨powerOnValues_of_reset [] .default 0 0 [],
    fun s => ⟨_, rfl, powerOnValues_of_reset [] .default 0 s.expiryCount s.pending, rfl⟩⟩,
    fun s => ⟨_, rfl, powerOnValues_of_reset s.pool.mem s.window.settings s.busData s.expiryCount s.pending, rfl, rfl⟩⟩

/-! ### CONFIGURE -/

/-- TABLE 11-2: the ranges, by the number of the item. -/
theorem itemInRange_iff (item value : Byte) : itemInRange item value = true ↔
    (item.toNat = 0 ∧ value.toNat ≤ 14) ∨ (item.toNat = 1 ∧ 2 ≤ value.toNat)
      ∨ (item.toNat = 2 ∧ 8 ≤ value.toNat ∧ value.toNat ≤ 64) ∨ (item.toNat = 3 ∧ 1 ≤ value.toNat ∧ value.toNat ≤ 15)
      ∨ (item.toNat = 4 ∧ 1 ≤ value.toNat ∧ value.toNat ≤ 8) ∨ (item.toNat = 5 ∧ value.toNat ≤ 32)
      ∨ (item.toNat = 6 ∧ value.toNat ≤ 1) := by
  have number (k : Nat) (small : k < 256) : item = BitVec.ofNat 8 k ↔ item.toNat = k := by
    rw [← BitVec.toNat_inj, BitVec.toNat_ofNat, Nat.mod_eq_of_lt small]
  unfold itemInRange
  simp only [show (0 : Byte) = BitVec.ofNat 8 0 from rfl, show (1 : Byte) = BitVec.ofNat 8 1 from rfl,
    show (2 : Byte) = BitVec.ofNat 8 2 from rfl, show (3 : Byte) = BitVec.ofNat 8 3 from rfl,
    show (4 : Byte) = BitVec.ofNat 8 4 from rfl, show (5 : Byte) = BitVec.ofNat 8 5 from rfl,
    show (6 : Byte) = BitVec.ofNat 8 6 from rfl, number _ (by decide : 0 < 256), number _ (by decide : 1 < 256),
    number _ (by decide : 2 < 256), number _ (by decide : 3 < 256), number _ (by decide : 4 < 256),
    number _ (by decide : 5 < 256), number _ (by decide : 6 < 256)]
  split_ifs
  case neg => simp; omega
  all_goals rw [decide_eq_true_eq]; omega

theorem allFree_iff (s : State) :
    s.allFree = true ↔ (∀ h, (s.entry h).state = .free) ∧ ∀ i, (s.offerAt i).state = .free := by
  simp only [State.allFree, Bool.and_eq_true, allEntries_iff, allOffers_iff, beq_iff_eq]

theorem configureResult_of_on {s : State} (on : s.line.state ≠ .off) : s.configureResult = .lineOn := by
  simp [State.configureResult, on]

theorem configureResult_of_outside {s : State} (off : s.line.state = .off)
    (outside : ¬ itemInRange s.window.opA s.window.opB = true) : s.configureResult = .badValue := by
  simp [State.configureResult, off, outside]

/-- R194, tests 3 and 4: with the value in range, the node's number needs every entry and offer FREE. -/
theorem configureResult_of_inRange {s : State} (off : s.line.state = .off)
    (inRange : itemInRange s.window.opA s.window.opB = true) :
    s.configureResult = if s.window.opA = 0 ∧ s.allFree = false then .badState else .done := by
  have item : ¬ 6 < s.window.opA.toNat := by
    rcases (itemInRange_iff _ _).mp inRange with h | h | h | h | h | h | h <;> omega
  simp [State.configureResult, off, item, inRange]

theorem exec_configure_of_refused {s : State} {r : ResultCode} (refused : s.configureResult = r) (ne : r ≠ .done) :
    exec .configure s = .next (s.withResult r) := by
  change execConfigure s = _
  unfold execConfigure
  split
  next passed => exact absurd (refused.symm.trans passed) ne
  next => rw [refused]

theorem exec_configure_of_done {s : State} (passed : s.configureResult = .done) :
    exec .configure s = .next { s with window := { s.window with
      result := .done, settings := s.window.settings.store s.window.opA s.window.opB } } := by
  change execConfigure s = _
  simp [execConfigure, passed]

/-- TABLE 11-2: what each item stores. -/
theorem Settings.store_item (c : Settings) (item value : Byte) :
    (item.toNat = 0 → c.store item value = { c with node := BitVec.ofNat 4 value.toNat })
    ∧ (item.toNat = 1 → c.store item value = { c with rateDivider := value.toNat })
    ∧ (item.toNat = 2 → c.store item value = { c with quietInterval := value.toNat })
    ∧ (item.toNat = 3 → c.store item value = { c with backoffBase := value.toNat })
    ∧ (item.toNat = 4 → c.store item value = { c with retryLimit := value.toNat })
    ∧ (item.toNat = 5 → c.store item value = { c with reserve := value.toNat })
    ∧ (item.toNat = 6 → c.store item value = { c with intakeHold := decide (value.toNat = 1) }) := by
  have named {k : Nat} (small : k < 256) (e : item.toNat = k) : item = BitVec.ofNat 8 k :=
    BitVec.eq_of_toNat_eq (by rw [e, BitVec.toNat_ofNat, Nat.mod_eq_of_lt small])
  have hold : (value == 1) = decide (value.toNat = 1) := by
    rw [Bool.eq_iff_iff, beq_iff_eq, decide_eq_true_eq, ← BitVec.toNat_inj]
    rfl
  refine ⟨fun e => ?_, fun e => ?_, fun e => ?_, fun e => ?_, fun e => ?_, fun e => ?_, fun e => ?_⟩ <;>
    rw [named (by decide) e]
  case refine_1 => rw [BitVec.ofNat_toNat]; rfl
  case refine_7 => rw [← hold]; rfl
  all_goals rfl

/-- Settles O5: the results of the four tests, and what each item stores. -/
theorem configureTestsThenStores : Obligations.ConfigureTestsThenStores := by
  unfold Obligations.ConfigureTestsThenStores
  intro s
  simp only [← itemInRange_iff, ← allFree_iff]
  have zero (e : s.window.opA.toNat = 0) : s.window.opA = 0 := BitVec.eq_of_toNat_eq e
  have stored (off : s.line.state = .off) (inRange : itemInRange s.window.opA s.window.opB = true)
      (free : s.window.opA = 0 → s.allFree = true) {c : Settings}
      (store : s.window.settings.store s.window.opA s.window.opB = c) :
      exec .configure s = .next { s with window := { s.window with result := .done, settings := c } } := by
    rw [exec_configure_of_done, store]
    rw [configureResult_of_inRange off inRange, if_neg]
    rintro ⟨node, busy⟩
    simp [free node] at busy
  obtain ⟨node, rateDivider, quietInterval, backoffBase, retryLimit, reserve, intakeHold⟩ :=
    s.window.settings.store_item s.window.opA s.window.opB
  have other {k : Nat} (e : s.window.opA.toNat = k) (ne : k ≠ 0) (isZero : s.window.opA = 0) : s.allFree = true := by
    rw [isZero] at e
    exact absurd e.symm ne
  refine ⟨fun on => exec_configure_of_refused (configureResult_of_on on) (by decide),
    fun off outside => exec_configure_of_refused (configureResult_of_outside off outside) (by decide),
    fun off inRange item busy => exec_configure_of_refused ?_ (by decide : ResultCode.badState ≠ .done),
    fun off inRange => ⟨fun e free => stored off inRange (fun _ => free) (node e),
      fun e => stored off inRange (other e (by decide)) (rateDivider e),
      fun e => stored off inRange (other e (by decide)) (quietInterval e),
      fun e => stored off inRange (other e (by decide)) (backoffBase e),
      fun e => stored off inRange (other e (by decide)) (retryLimit e),
      fun e => stored off inRange (other e (by decide)) (reserve e),
      fun e => stored off inRange (other e (by decide)) (intakeHold e)⟩⟩
  rw [configureResult_of_inRange off inRange, if_pos ⟨zero item, by simpa using busy⟩]

/-! ### LINE ON and LINE OFF -/

theorem exec_lineOff_of_listener {s : State} {r : Role} (listens : s.line.state = .listener r) :
    exec .lineOff s = .next (s.giveUp.lineDisabled.withResult .done) := by
  change execLineOff s = _
  simp [execLineOff, listens]

/-- Settles O6: LINE ON in OFF and elsewhere; LINE OFF state by state, and role by role. -/
theorem lineOnAndLineOffActByTheState : Obligations.LineOnAndLineOffActByTheState := by
  unfold Obligations.LineOnAndLineOffActByTheState
  refine ⟨fun s => ⟨fun off values => ?_, fun low on => if_neg on⟩, fun s => ?_⟩
  · refine ⟨(if_pos off).trans ?_, (if_pos off).trans ?_⟩ <;> rw [values] <;> rfl
  refine ⟨fun off => ?_, fun resting => ?_, fun h master => ⟨fun going => ?_, fun pending => ?_⟩,
    fun r listens notServing => ⟨fun none => ?_, fun m taken => ?_⟩, fun i serving none => ⟨fun going => ?_, fun pending => ?_⟩⟩
  · change execLineOff s = _
    simp only [execLineOff, off]
    rfl
  · change execLineOff s = _
    rcases resting with e | e | e | e <;> simp only [execLineOff, e] <;> rfl
  · change execLineOff s = _
    simp only [execLineOff, master, State.handBack_of_going going]
    rfl
  · change execLineOff s = _
    simp only [execLineOff, master, State.handBack_of_pending pending]
    rfl
  · rw [exec_lineOff_of_listener listens, State.giveUp_of_listener listens notServing, State.discardIntake_of_none none]
    rfl
  · rw [exec_lineOff_of_listener listens, State.giveUp_of_listener listens notServing, State.discardIntake_of_some taken]
    rfl
  · rw [exec_lineOff_of_listener serving, State.giveUp_of_serving serving, State.discardIntake_of_none none,
      State.returnOffer_of_not_pending going]
    rfl
  · rw [exec_lineOff_of_listener serving, State.giveUp_of_serving serving, State.discardIntake_of_none none,
      State.returnOffer_of_pending pending]
    rfl

/-! ### HALT, GO, CLEAR STATISTICS and the codes written to COMMAND -/

/-- TABLE 11-1: a code that is none of the table's names no command. -/
theorem namesCommand_of_unlisted : ∀ code : Byte,
    code ∉ [(0x01 : Byte), 0x02, 0x03, 0x04, 0x10, 0x11, 0x12, 0x13, 0x14, 0x15, 0x16, 0x20, 0x21,
      0x30, 0x31, 0x32, 0x33, 0x40] → namesCommand code = false := by decide

/-- Settles O11: HALT, GO, CLEAR STATISTICS, the commands by their codes, and a code that names none. -/
theorem haltGoClearStatisticsAndUnknownCommand : Obligations.HaltGoClearStatisticsAndUnknownCommand := by
  unfold Obligations.HaltGoClearStatisticsAndUnknownCommand
  refine ⟨fun s => ⟨rfl, rfl⟩, fun s => ⟨rfl, by decide, fun code unlisted => ?_⟩⟩
  have unnamed := namesCommand_of_unlisted code unlisted
  refine ⟨fun low => commandWritten_of_unnamed code low unnamed, ?_⟩
  change execUnknownCommand code s = _
  simp only [execUnknownCommand, unnamed]
  rfl

/-- Settles O19: the two cases of a release, LCL released and LCL still low. -/
theorem masterReleasesTheLineWithHoldOff : Obligations.MasterReleasesTheLineWithHoldOff := by
  unfold Obligations.MasterReleasesTheLineWithHoldOff
  exact fun s => ⟨s.releaseLine_eq false, s.releaseLine_eq true⟩

end Sys2Proof.Machine

/-! SUPPORT. The commands of the Send Queue: what the tests of OPEN SEND, POST, RESUME and DISCARD give, and the statements
about OPEN SEND, POST, CANCEL, RESUME and DISCARD. -/

namespace Sys2Proof.Machine

/-! ### OPEN SEND -/

namespace State

theorem lowestFreeEntry_eq_none_iff (s : State) : s.lowestFreeEntry = none ↔ ∀ h, (s.entry h).state ≠ .free := by
  simp [lowestFreeEntry]

theorem lowestFreeEntry_eq_some {s : State} {h : Handle} (free : (s.entry h).state = .free)
    (lowest : ∀ g, g < h → (s.entry g).state ≠ .free) : s.lowestFreeEntry = some h :=
  (find_finRange_iff _ h).mpr ⟨by simp [free], fun g below => by simp [lowest g below]⟩

theorem lowestFreeOffer_eq_none_iff (s : State) : s.lowestFreeOffer = none ↔ ∀ i, (s.offerAt i).state ≠ .free := by
  simp [lowestFreeOffer]

theorem lowestFreeOffer_eq_some {s : State} {i : OfferIndex} (free : (s.offerAt i).state = .free)
    (lowest : ∀ j, j < i → (s.offerAt j).state ≠ .free) : s.lowestFreeOffer = some i :=
  (find_finRange_iff _ i).mpr ⟨by simp [free], fun j below => by simp [lowest j below]⟩

/-- Something is STAGING, in the words of the statements. -/
theorem noStaging_iff_not_staged (s : State) :
    s.noStaging = true ↔ ¬ ((∃ h, (s.entry h).state = .staging) ∨ ∃ i, (s.offerAt i).state = .staging) := by
  rw [← noStaging_eq_false_iff, Bool.not_eq_false]

theorem openSendTests_of_no_slot {s : State} (noStaging : s.noStaging = true) (length : s.window.opA.toNat ≤ 128)
    (noSlot : s.lowestFreeEntry = none) : s.openSendTests = .error .noSlot := by
  simp only [openSendTests, noStaging, Bool.true_eq_false, if_false, if_neg (not_lt.mpr length), noSlot]

theorem openSendTests_of_slot {s : State} {h : Handle} (noStaging : s.noStaging = true)
    (length : s.window.opA.toNat ≤ 128) (slot : s.lowestFreeEntry = some h) :
    s.openSendTests =
      if s.pool.grantsHost s.window.settings.reserve s.window.opA.toNat then .ok h else .error .noCells := by
  simp only [openSendTests, noStaging, Bool.true_eq_false, if_false, if_neg (not_lt.mpr length), slot]

end State

theorem exec_openSend_of_error {s : State} {r : ResultCode} (failed : s.openSendTests = .error r) :
    exec .openSend s = .next (s.withResult r) := by
  change execOpenSend s = _
  simp only [execOpenSend, failed]

theorem exec_openSend_of_ok {s : State} {h : Handle} (passed : s.openSendTests = .ok h) :
    exec .openSend s = .next (s.openSend h s.window.opA.toNat) := by
  change execOpenSend s = _
  simp only [execOpenSend, passed]

/-- Settles O7: the tests of OPEN SEND one after another, and the entry that it opens. -/
theorem openSendTestsThenOpensTheLowestFreeEntry : Obligations.OpenSendTestsThenOpensTheLowestFreeEntry := by
  unfold Obligations.OpenSendTestsThenOpensTheLowestFreeEntry
  refine ⟨fun s => ?_, fun s h noSend noOffer length free lowest cells => ?_⟩
  · simp only [← State.noStaging_iff_not_staged]
    refine ⟨fun staged => exec_openSend_of_error ?_, fun none long => exec_openSend_of_error ?_,
      fun none short noSlot => exec_openSend_of_error ?_, fun none short slot few => exec_openSend_of_error ?_⟩
    · simp [State.openSendTests, (noStaging_eq_false_iff s).mpr staged]
    · simp [State.openSendTests, none, long]
    · exact State.openSendTests_of_no_slot none short (s.lowestFreeEntry_eq_none_iff.mpr (not_exists.mp noSlot))
    · have refused : s.pool.grantsHost s.window.settings.reserve s.window.opA.toNat = false :=
        decide_eq_false (not_le.mpr few)
      cases lowest : s.lowestFreeEntry with
      | none => exact absurd slot (not_exists.mpr (s.lowestFreeEntry_eq_none_iff.mp lowest))
      | some h =>
        rw [State.openSendTests_of_slot none short lowest]
        exact if_neg (by simp [refused])
  · have granted : s.pool.grantsHost s.window.settings.reserve s.window.opA.toNat = true := decide_eq_true cells
    have passed : s.openSendTests = .ok h := by
      rw [State.openSendTests_of_slot ((noStaging_iff s).mpr ⟨noSend, noOffer⟩) length
        (State.lowestFreeEntry_eq_some free lowest)]
      exact if_pos granted
    rw [exec_openSend_of_ok passed]
    rfl

/-! ### POST -/

/-- R60, test 5. -/
theorem lengthFits_eq_false_iff (k : Kind) (n : Nat) :
    lengthFits k n = false ↔ (k = .probe ∧ n ≠ 0) ∨ (k = .collect ∧ n = 0) := by
  cases k <;> simp [lengthFits]

theorem destinationFits_eq_false_iff (k : Kind) (d : Nibble) :
    destinationFits k d = false ↔ ¬ (k = .broadcast ↔ d = 15) := by
  rw [← destinationFits_iff, Bool.not_eq_true]

/-- The tests of POST after the kind. -/
theorem State.postTests_of_kind {s : State} {h : Handle} {k : Kind} (handle : s.window.opA.toNat = h.val)
    (staging : (s.entry h).state = .staging) (kind : k.code = lo s.window.opB) :
    s.postTests =
      if destinationFits k s.postDest = false then .error .badDestination
      else if s.postDest = s.window.settings.node then .error .badDestination
      else if lengthFits k (s.entry h).length = false then .error .badKind
      else if 8 < s.postRetry then .error .badValue
      else .ok (h, k) := by
  simp [State.postTests, handleOperand_of_eq _ h handle, staging, ← kind, kind_ofCode_code]

theorem exec_post_of_error {s : State} {r : ResultCode} (failed : s.postTests = .error r) :
    exec .post s = .next (s.withResult r) := by
  change execPost s = _
  simp only [execPost, failed]

theorem exec_post_of_ok {s : State} {h : Handle} {k : Kind} (passed : s.postTests = .ok (h, k)) :
    exec .post s =
      if (s.dest s.postDest).suspended then .next ((s.postEntry h k).withResult .done)
      else .next ((s.postEntry h k).withResult .done).claimTest := by
  change execPost s = _
  simp only [execPost, passed]

/-- Settles O8: the tests of POST one after another. -/
theorem postRefusesInTheOrderOfItsTests : Obligations.PostRefusesInTheOrderOfItsTests := by
  unfold Obligations.PostRefusesInTheOrderOfItsTests
  refine fun s => ⟨fun above => exec_post_of_error ?_, fun h handle => ⟨fun other => exec_post_of_error ?_,
    fun staging => ⟨fun noKind => exec_post_of_error ?_, fun k kind => ?_⟩⟩⟩
  · simp [State.postTests, handleOperand_of_le _ above]
  · simp [State.postTests, handleOperand_of_eq _ h handle, other]
  · simp [State.postTests, handleOperand_of_eq _ h handle, staging, (kind_ofCode_eq_none (lo s.window.opB)).mpr noKind]
  have tests := State.postTests_of_kind handle staging kind
  simp only [← lengthFits_eq_false_iff, ← destinationFits_iff]
  refine ⟨fun unfit => exec_post_of_error (tests.trans (if_pos (Bool.not_eq_true _ ▸ unfit))), fun fits => ?_⟩
  rw [if_neg (show ¬ destinationFits k s.postDest = false from fun unfit => by cases unfit.symm.trans fits)] at tests
  refine ⟨fun own => exec_post_of_error (tests.trans (if_pos own)), fun other => ?_⟩
  rw [if_neg (show ¬ s.postDest = s.window.settings.node from other)] at tests
  refine ⟨fun unfit => exec_post_of_error (tests.trans (if_pos unfit)), fun fits high => exec_post_of_error ?_⟩
  rw [tests, if_neg fits]
  exact if_pos high

/-- R61, R106: POST as the statement writes it, of the operations on the entry and on the Destination Table. -/
theorem State.postEntry_eq (s : State) (h : Handle) (k : Kind) :
    (s.postEntry h k).withResult .done =
      { s with
        queue := { s.queue with
          entries := s.queue.entries.set h (s.postedEntry h k)
          order := s.queue.order ++ [h]
          postCounter := s.queue.postCounter + 1
          dests := if k.tagged
            then s.queue.dests.set s.postDest.toNat
              { s.dest s.postDest with nextTag := (s.dest s.postDest).nextTag + 1 } s.postDest.isLt
            else s.queue.dests }
        window := { s.window with result := .done, fill := none } } := by
  have dests : s.queue.dests.set s.postDest.toNat (s.postedDest k) s.postDest.isLt =
      if k.tagged
        then s.queue.dests.set s.postDest.toNat
          { s.dest s.postDest with nextTag := (s.dest s.postDest).nextTag + 1 } s.postDest.isLt
        else s.queue.dests := by
    unfold State.postedDest
    split
    · rfl
    · exact Vector.set_getElem_self _
  rw [← dests]
  rfl

/-- Settles O9: with the tests passed, POST makes the entry, and the claim test unless the destination is SUSPENDED. -/
theorem postPlacesTheEntryAndGivesItsTag : Obligations.PostPlacesTheEntryAndGivesItsTag := by
  unfold Obligations.PostPlacesTheEntryAndGivesItsTag
  intro s h k d retry tagged posted handle staging kind broadcast other probe collect limit
  have fits : ¬ lengthFits k (s.entry h).length = false := by
    rw [lengthFits_eq_false_iff]
    rintro (⟨e, ne⟩ | ⟨e, zero⟩)
    · exact ne (probe e)
    · exact collect e zero
  have passed : s.postTests = .ok (h, k) := by
    rw [State.postTests_of_kind handle staging kind, if_neg (by rw [destinationFits_eq_false_iff, not_not]; exact broadcast),
      if_neg (show ¬ s.postDest = s.window.settings.node from other), if_neg fits]
    exact if_neg (not_lt.mpr limit)
  have tags : k.tagged = tagged := by cases k <;> rfl
  have made : (s.postEntry h k).withResult .done = posted := by
    rw [State.postEntry_eq, State.postedEntry, tags]
    rfl
  rw [exec_post_of_ok passed, made]
  exact (apply_ite Host.Outcome.next _ _ _).symm

/-! ### CANCEL -/

/-- Settles O10: CANCEL state by state. -/
theorem cancelActsByTheEntrysState : Obligations.CancelActsByTheEntrysState := by
  unfold Obligations.CancelActsByTheEntrysState
  refine fun s => ⟨fun above => ?_, fun h handle => ?_⟩
  · change execCancel s = _
    simp only [execCancel, handleOperand_of_le _ above]
    rfl
  have operand := handleOperand_of_eq _ h handle
  refine ⟨fun ended => ?_, fun staging => ?_, fun waits => ?_, fun flight => ?_⟩ <;> change execCancel s = _
  · rcases ended with e | e <;> simp only [execCancel, operand, e] <;> rfl
  · simp only [execCancel, operand, staging]; rfl
  · rcases waits with e | e | e <;> simp only [execCancel, operand, e] <;> rfl
  · simp only [execCancel, operand, flight]; rfl

/-! ### RESUME and DISCARD -/

theorem suspendedOperand_of_lt {s : State} (above : 15 < s.window.opA.toNat) :
    s.suspendedOperand = .error .badDestination := by
  simp only [State.suspendedOperand, destinationOperand_of_lt _ above]

theorem suspendedOperand_of_eq {s : State} {d : Nibble} (operand : s.window.opA.toNat = d.toNat) :
    s.suspendedOperand = if (s.dest d).suspended then .ok d else .error .notSuspended := by
  simp only [State.suspendedOperand, destinationOperand_of_eq _ d operand]

theorem suspendedOperand_of_open {s : State} {d : Nibble} (operand : s.window.opA.toNat = d.toNat)
    (isOpen : (s.dest d).suspended = false) : s.suspendedOperand = .error .notSuspended := by
  rw [suspendedOperand_of_eq operand, if_neg (by simp [isOpen])]

theorem suspendedOperand_of_suspended {s : State} {d : Nibble} (operand : s.window.opA.toNat = d.toNat)
    (suspended : (s.dest d).suspended = true) : s.suspendedOperand = .ok d := by
  rw [suspendedOperand_of_eq operand, if_pos suspended]

theorem exec_resume_of_error {s : State} {r : ResultCode} (failed : s.suspendedOperand = .error r) :
    exec .resume s = .next (s.withResult r) := by
  change execResume s = _
  simp only [execResume, failed]

theorem exec_resume_of_ok {s : State} {d : Nibble} (passed : s.suspendedOperand = .ok d) :
    exec .resume s = .next ((s.resumeDest d).withResult .done).claimTest := by
  change execResume s = _
  simp only [execResume, passed]

theorem exec_discard_of_error {s : State} {r : ResultCode} (failed : s.suspendedOperand = .error r) :
    exec .discard s = .next (s.withResult r) := by
  change execDiscard s = _
  simp only [execDiscard, failed]

theorem exec_discard_of_ok {s : State} {d : Nibble} (passed : s.suspendedOperand = .ok d) :
    exec .discard s = .next ((s.discardDest d).withResult .done).claimTest := by
  change execDiscard s = _
  simp only [execDiscard, passed]

/-- Settles O12: RESUME of a number above 15, of an OPEN and of a SUSPENDED destination. -/
theorem resumeReopensTheDestination : Obligations.ResumeReopensTheDestination := by
  unfold Obligations.ResumeReopensTheDestination
  refine fun s => ⟨fun above => exec_resume_of_error (suspendedOperand_of_lt above), fun d operand =>
    ⟨fun isOpen => exec_resume_of_error (suspendedOperand_of_open operand isOpen), fun suspended => ?_⟩⟩
  rw [exec_resume_of_ok (suspendedOperand_of_suspended operand suspended)]
  rfl

/-- Settles O13: DISCARD of a number above 15, of an OPEN and of a SUSPENDED destination; the HELD entries to it, which
are in the post-order list, have finished. -/
theorem discardFinishesTheHeldEntriesInPostOrder : Obligations.DiscardFinishesTheHeldEntriesInPostOrder := by
  unfold Obligations.DiscardFinishesTheHeldEntriesInPostOrder
  refine fun s => ⟨fun above => exec_discard_of_error (suspendedOperand_of_lt above), fun d operand =>
    ⟨fun isOpen => exec_discard_of_error (suspendedOperand_of_open operand isOpen), fun suspended =>
      ⟨exec_discard_of_ok (suspendedOperand_of_suspended operand suspended), fun hq h held dest => ?_⟩⟩⟩
  have waits : h ∈ s.queue.order := (hq.orderMember h).mpr (by rw [held]; rfl)
  exact State.entry_discardDest_of_mem hq.orderNodup ((s.mem_heldTo d h).mpr ⟨waits, held, dest⟩)

end Sys2Proof.Machine

/-! SUPPORT. The selection and the claim, the finish and the end of an attempt: the statements about them. -/

namespace Sys2Proof.Machine
namespace State

/-! ### The selection -/

theorem eligible_iff (s : State) (h : Handle) : s.eligible h = true ↔
    (s.entry h).state = .ready
    ∧ (∀ g ∈ s.queue.order.takeWhile (· != h), (s.entry g).dest ≠ (s.entry h).dest)
    ∧ (s.dest (s.entry h).dest).suspended = false
    ∧ ((s.entry h).kind = some .collect → s.occupancy < 10) := by
  simp only [eligible, olderThan, Bool.and_eq_true, Bool.or_eq_true, beq_iff_eq, bne_iff_ne, List.all_eq_true,
    Bool.not_eq_true', decide_eq_true_eq, and_assoc, ← imp_iff_not_or]

theorem selection_eq_none_iff (s : State) : s.selection = none ↔ ∀ h ∈ s.queue.order, s.eligible h = false := by
  simp only [selection, Option.or_eq_none_iff, List.find?_eq_none, Bool.and_eq_true, not_and, Bool.not_eq_true',
    Bool.not_eq_false, Bool.not_eq_true]
  refine ⟨fun ⟨urgent, routine⟩ h waits => ?_, fun none => ⟨fun h waits eligible => ?_, fun h waits eligible => ?_⟩⟩
  · by_contra eligible
    rw [Bool.not_eq_false] at eligible
    simpa [urgent h waits eligible] using routine h waits eligible
  · simp [none h waits] at eligible
  · simp [none h waits] at eligible

/-- R65: an URGENT entry selected is the oldest eligible URGENT one; a ROUTINE one the oldest eligible, with no URGENT. -/
theorem selection_eq_some {s : State} {h : Handle} (selected : s.selection = some h) :
    ((s.entry h).urgent = true → ∀ g ∈ s.queue.order.takeWhile (· != h),
        ¬ (s.eligible g = true ∧ (s.entry g).urgent = true))
    ∧ ((s.entry h).urgent = false →
        (∀ g ∈ s.queue.order, ¬ (s.eligible g = true ∧ (s.entry g).urgent = true))
        ∧ ∀ g ∈ s.queue.order.takeWhile (· != h), s.eligible g = false) := by
  rcases Option.or_eq_some_iff.mp selected with urgent | ⟨noUrgent, routine⟩
  · obtain ⟨-, fits, oldest⟩ := find_takeWhile _ _ _ urgent
    obtain ⟨-, isUrgent⟩ := Bool.and_eq_true_iff.mp fits
    exact ⟨fun _ g older both => by simpa [both] using oldest g older, fun isRoutine => by simp [isUrgent] at isRoutine⟩
  · obtain ⟨-, fits, oldest⟩ := find_takeWhile _ _ _ routine
    obtain ⟨-, isRoutine⟩ := Bool.and_eq_true_iff.mp fits
    have none (g : Handle) (waits : g ∈ s.queue.order) : ¬ (s.eligible g = true ∧ (s.entry g).urgent = true) := by
      simpa using List.find?_eq_none.mp noUrgent g waits
    refine ⟨fun isUrgent => by simp [isUrgent] at isRoutine, fun _ => ⟨none, fun g older => ?_⟩⟩
    by_contra eligible
    rw [Bool.not_eq_false] at eligible
    have notUrgent : (s.entry g).urgent = true := by simpa [eligible] using oldest g older
    exact none g (List.takeWhile_subset _ older) ⟨eligible, notUrgent⟩

theorem claimTest_of_selection {s : State} (quiet : s.line.state = .quiet) (holdOff : s.line.holdOff = false)
    (going : s.queue.halted = false) {h : Handle} (selected : s.selection = some h) : s.claimTest = s.claim h := by
  simp [claimTest, quiet, holdOff, going, selected]

end State

/-- Settles O14: the tests of eligibility, and the first of the list that passes. -/
theorem selectionIsTheOldestEligibleUrgentFirst : Obligations.SelectionIsTheOldestEligibleUrgentFirst := by
  unfold Obligations.SelectionIsTheOldestEligibleUrgentFirst
  refine fun s => ⟨s.eligible_iff, s.selection_eq_none_iff, fun h selected => ?_⟩
  obtain ⟨waits, eligible⟩ := State.selection_eligible selected
  exact ⟨waits, eligible, State.selection_eq_some selected⟩

/-- Settles O15: the conditions of the claim test, and the claim that it makes. -/
theorem claimTestClaimsForTheSelection : Obligations.ClaimTestClaimsForTheSelection := by
  unfold Obligations.ClaimTestClaimsForTheSelection
  refine fun s => ⟨fun unready => if_neg unready, fun none => ?_, fun h k quiet holdOff going selected kind => ?_⟩
  · simp only [State.claimTest, none]
    exact ite_self s
  · rw [State.claimTest_of_selection quiet holdOff going selected, State.claim, formHeader, kind, State.firstFor, kind]
    rfl

/-! ### Finishing and the end of an attempt -/

/-- R108: the destination table of before the finish is that of after it. -/
theorem State.suspend_finish (s u : State) (same : ∀ d, u.dest d = s.dest d) (d : Nibble) (n : Byte) :
    u.suspend d n =
      { u with queue := { u.queue with
        entries := u.queue.entries.map (fun x =>
          if x.dest = d ∧ (x.state = .ready ∨ x.state = .backoff) then { x with state := .held, backoff := 0 } else x)
        dests := u.queue.dests.set d.toNat { s.dest d with suspended := true, suspendingPost := n } d.isLt } } := by
  rw [← same d]
  rfl

/-- Settles O16: the finish with room in the Report List and without, and the finishing outcomes one by one. -/
theorem finishReportsAndSettlesTheDestination : Obligations.FinishReportsAndSettlesTheDestination := by
  unfold Obligations.FinishReportsAndSettlesTheDestination
  refine ⟨fun s h o => ⟨fun room => if_pos room, fun full => if_neg (not_lt.mpr full)⟩, fun s h o =>
    ⟨fun refused => ?_, fun delivered data => ?_, fun delivered other => ?_, fun r d dd => ?_⟩⟩
  · rw [refused]
    exact s.suspend_finish (s.finish h .refused) (fun d => s.dest_finish h _ d) _ _
  · rcases delivered with rfl | rfl <;> refine (if_pos data).trans ?_ <;> rw [State.clearFresh, s.dest_finish h] <;> rfl
  · rcases delivered with rfl | rfl <;> exact if_neg other
  · cases o with
    | refused => exact absurd rfl r
    | delivered => exact absurd rfl d
    | deliveredDuplicate => exact absurd rfl dd
    | sent | collected | empty | failed | cancelled | discarded => rfl

/-- Settles O17: the three ends of a consumed attempt. -/
theorem consumedAttemptCancelsFailsOrBacksOff : Obligations.ConsumedAttemptCancelsFailsOrBacksOff := by
  unfold Obligations.ConsumedAttemptCancelsFailsOrBacksOff
  refine fun s h r => ⟨fun cancelled => if_pos cancelled, fun going last => ?_, fun going more => ?_⟩
  · refine (if_neg (by simp [going])).trans ((if_pos last).trans ?_)
    exact s.suspend_finish _ (fun d => (s.countAttempt h r).dest_finish h _ d) _ _
  · exact (if_neg (by simp [going])).trans (if_neg more)

end Sys2Proof.Machine

/-! SUPPORT. The commands of the Offer Table, the commands that their tests refuse, DRAIN DATA and the register writes: the
statements about them. -/

namespace Sys2Proof.Machine

/-! ### OPEN OFFER -/

namespace State

theorem openOfferTests_of_no_slot {s : State} {a : Nibble} (noStaging : s.noStaging = true)
    (length : s.window.opA.toNat ≤ 128) (addressee : destinationOperand s.window.opB = some a)
    (other : a ≠ s.window.settings.node) (noSlot : s.lowestFreeOffer = none) :
    s.openOfferTests = .error .noSlot := by
  simp only [openOfferTests, noStaging, Bool.true_eq_false, if_false, if_neg (not_lt.mpr length), addressee,
    if_neg other, noSlot]

theorem openOfferTests_of_slot {s : State} {a : Nibble} {i : OfferIndex} (noStaging : s.noStaging = true)
    (length : s.window.opA.toNat ≤ 128) (addressee : destinationOperand s.window.opB = some a)
    (other : a ≠ s.window.settings.node) (slot : s.lowestFreeOffer = some i) :
    s.openOfferTests =
      if s.pool.grantsHost s.window.settings.reserve s.window.opA.toNat then .ok (i, a) else .error .noCells := by
  simp only [openOfferTests, noStaging, Bool.true_eq_false, if_false, if_neg (not_lt.mpr length), addressee,
    if_neg other, slot]

end State

theorem exec_openOffer_of_error {s : State} {r : ResultCode} (failed : s.openOfferTests = .error r) :
    exec .openOffer s = .next (s.withResult r) := by
  change execOpenOffer s = _
  simp only [execOpenOffer, failed]

theorem exec_openOffer_of_ok {s : State} {i : OfferIndex} {a : Nibble} (passed : s.openOfferTests = .ok (i, a)) :
    exec .openOffer s = .next (s.openOffer i s.window.opA.toNat a) := by
  change execOpenOffer s = _
  simp only [execOpenOffer, passed]

/-- The addressee operand, 0 to 15 and not the node's own number, in the words of the statement. -/
theorem addressee_of_not_bad {s : State}
    (good : ¬ (15 < s.window.opB.toNat ∨ s.window.opB.toNat = s.window.settings.node.toNat)) :
    destinationOperand s.window.opB = some (s.window.opB.extractLsb' 0 4)
      ∧ s.window.opB.extractLsb' 0 4 ≠ s.window.settings.node := by
  obtain ⟨below, other⟩ := not_or.mp good
  have value : (s.window.opB.extractLsb' 0 4).toNat = s.window.opB.toNat := by
    rw [BitVec.extractLsb'_toNat, Nat.shiftRight_zero]
    exact Nat.mod_eq_of_lt (by omega)
  exact ⟨destinationOperand_of_eq _ _ value.symm, fun own => other (value.symm.trans (congrArg BitVec.toNat own))⟩

/-- Settles O22: the tests of OPEN OFFER one after another, and the offer that it opens. -/
theorem openOfferTestsThenOpensTheLowestFreeOffer : Obligations.OpenOfferTestsThenOpensTheLowestFreeOffer := by
  unfold Obligations.OpenOfferTestsThenOpensTheLowestFreeOffer
  intro s
  simp only [← State.noStaging_iff_not_staged]
  refine ⟨fun staged => exec_openOffer_of_error ?_, fun none long => exec_openOffer_of_error ?_,
    fun none short bad => exec_openOffer_of_error ?_, fun none short good noSlot => exec_openOffer_of_error ?_,
    fun none short good slot few => exec_openOffer_of_error ?_, fun none short good cells i free lowest => ?_⟩
  · simp [State.openOfferTests, (noStaging_eq_false_iff s).mpr staged]
  · simp [State.openOfferTests, none, long]
  · have length := not_lt.mpr short
    by_cases above : 15 < s.window.opB.toNat
    · simp [State.openOfferTests, none, length, destinationOperand_of_lt _ above]
    · have own := bad.resolve_left above
      simp [State.openOfferTests, none, length, destinationOperand_of_eq _ _ own]
  · obtain ⟨addressee, other⟩ := addressee_of_not_bad good
    exact State.openOfferTests_of_no_slot none short addressee other
      (s.lowestFreeOffer_eq_none_iff.mpr (not_exists.mp noSlot))
  · obtain ⟨addressee, other⟩ := addressee_of_not_bad good
    have refused : ¬ s.pool.grantsHost s.window.settings.reserve s.window.opA.toNat = true :=
      fun granted => few (of_decide_eq_true granted)
    cases lowest : s.lowestFreeOffer with
    | none => exact absurd slot (not_exists.mpr (s.lowestFreeOffer_eq_none_iff.mp lowest))
    | some i => exact (State.openOfferTests_of_slot none short addressee other lowest).trans (if_neg refused)
  · obtain ⟨addressee, other⟩ := addressee_of_not_bad good
    have granted : s.pool.grantsHost s.window.settings.reserve s.window.opA.toNat = true := decide_eq_true cells
    rw [exec_openOffer_of_ok ((State.openOfferTests_of_slot none short addressee other
      (State.lowestFreeOffer_eq_some free lowest)).trans (if_pos granted))]
    rfl

/-! ### POST OFFER, WITHDRAW and CLEAR OFFER -/

/-- Settles O23: POST OFFER, CLEAR OFFER and WITHDRAW, state by state. -/
theorem offerCommandsActByTheOffersState : Obligations.OfferCommandsActByTheOffersState := by
  unfold Obligations.OfferCommandsActByTheOffersState
  refine ⟨fun s => ⟨fun above => ?_, fun i index => ?_⟩, fun s => ⟨fun above => ?_, fun i index => ?_⟩⟩
  · have operand := indexOperand_of_lt _ above
    refine ⟨?_, ?_⟩
    · change execPostOffer s = _
      simp only [execPostOffer, operand]; rfl
    · change execClearOffer s = _
      simp only [execClearOffer, operand]; rfl
  · have operand := indexOperand_of_eq _ i index
    refine ⟨fun other => ?_, fun staging => ?_, fun other => ?_, fun taken => ?_⟩
    · change execPostOffer s = _
      simp only [execPostOffer, operand, if_neg other]; rfl
    · change execPostOffer s = _
      simp only [execPostOffer, operand, if_pos staging]; rfl
    · change execClearOffer s = _
      simp only [execClearOffer, operand, if_neg other]; rfl
    · change execClearOffer s = _
      simp only [execClearOffer, operand, if_pos taken]; rfl
  · change execWithdraw s = _
    simp only [execWithdraw, indexOperand_of_lt _ above]; rfl
  · have operand := indexOperand_of_eq _ i index
    refine ⟨fun ended => ?_, fun staging out => ?_, fun posted => ?_, fun serving => ?_⟩ <;> change execWithdraw s = _
    · rcases ended with e | e <;> simp only [execWithdraw, operand, e] <;> rfl
    · have order : s.offers.order.filter (· != i) = s.offers.order :=
        List.filter_eq_self.mpr fun j mem => bne_iff_ne.mpr fun same => out (same ▸ mem)
      simp only [execWithdraw, operand, staging, State.dropOffer, order]
      rfl
    · simp only [execWithdraw, operand, posted]; rfl
    · simp only [execWithdraw, operand, serving]; rfl

/-! ### Refused commands -/

/-- R193: the command places a result alone, or is DONE. -/
def RefusedOrDone (c : Instr) (s : State) : Prop :=
  (∃ r, exec c s = .next (s.withResult r)) ∨ ∃ t, exec c s = .next t ∧ t.window.result = .done

theorem claimTest_done {s : State} : ((s.withResult .done).claimTest).window.result = .done := by simp

theorem configure_refusedOrDone (s : State) : RefusedOrDone .configure s := by
  rcases exec_configure_cases s with ⟨-, done⟩ | ⟨r, refused⟩
  · exact Or.inr ⟨_, done, rfl⟩
  · exact Or.inl ⟨r, refused⟩

theorem openSend_refusedOrDone (s : State) : RefusedOrDone .openSend s := by
  rcases tests : s.openSendTests with r | h
  · exact Or.inl ⟨r, exec_openSend_of_error tests⟩
  · exact Or.inr ⟨_, exec_openSend_of_ok tests, rfl⟩

theorem post_refusedOrDone (s : State) : RefusedOrDone .post s := by
  rcases tests : s.postTests with r | ⟨h, k⟩
  · exact Or.inl ⟨r, exec_post_of_error tests⟩
  · refine Or.inr ?_
    rw [exec_post_of_ok tests]
    split
    · exact ⟨_, rfl, rfl⟩
    · exact ⟨_, rfl, claimTest_done⟩

theorem cancel_refusedOrDone (s : State) : RefusedOrDone .cancel s := by
  unfold RefusedOrDone
  change (∃ r, execCancel s = _) ∨ ∃ t, execCancel s = _ ∧ _
  unfold execCancel
  split
  next => exact Or.inl ⟨_, rfl⟩
  next h _ =>
    split
    · exact Or.inl ⟨_, rfl⟩
    · exact Or.inl ⟨_, rfl⟩
    · exact Or.inr ⟨_, rfl, rfl⟩
    · exact Or.inr ⟨_, rfl, claimTest_done⟩
    · exact Or.inr ⟨_, rfl, claimTest_done⟩
    · exact Or.inr ⟨_, rfl, claimTest_done⟩
    · exact Or.inr ⟨_, rfl, rfl⟩

theorem resume_refusedOrDone (s : State) : RefusedOrDone .resume s := by
  rcases tests : s.suspendedOperand with r | d
  · exact Or.inl ⟨r, exec_resume_of_error tests⟩
  · exact Or.inr ⟨_, exec_resume_of_ok tests, claimTest_done⟩

theorem discard_refusedOrDone (s : State) : RefusedOrDone .discard s := by
  rcases tests : s.suspendedOperand with r | d
  · exact Or.inl ⟨r, exec_discard_of_error tests⟩
  · exact Or.inr ⟨_, exec_discard_of_ok tests, claimTest_done⟩

theorem take_refusedOrDone (s : State) : RefusedOrDone .take s := by
  rcases list : s.recv.records with - | ⟨head, rest⟩
  · exact Or.inl ⟨_, exec_take_of_empty s list⟩
  · exact Or.inr ⟨_, exec_take_of_cons s head rest list, claimTest_done⟩

theorem takeReport_refusedOrDone (s : State) : RefusedOrDone .takeReport s := by
  rcases list : s.reports.records with - | ⟨head, rest⟩
  · exact Or.inl ⟨_, exec_takeReport_of_empty s list⟩
  · exact Or.inr ⟨_, exec_takeReport_of_cons s head rest list, rfl⟩

theorem openOffer_refusedOrDone (s : State) : RefusedOrDone .openOffer s := by
  rcases tests : s.openOfferTests with r | ⟨i, a⟩
  · exact Or.inl ⟨r, exec_openOffer_of_error tests⟩
  · exact Or.inr ⟨_, exec_openOffer_of_ok tests, rfl⟩

theorem postOffer_refusedOrDone (s : State) : RefusedOrDone .postOffer s := by
  unfold RefusedOrDone
  change (∃ r, execPostOffer s = _) ∨ ∃ t, execPostOffer s = _ ∧ _
  unfold execPostOffer
  split
  next => exact Or.inl ⟨_, rfl⟩
  next =>
    split
    · exact Or.inr ⟨_, rfl, rfl⟩
    · exact Or.inl ⟨_, rfl⟩

theorem withdraw_refusedOrDone (s : State) : RefusedOrDone .withdraw s := by
  unfold RefusedOrDone
  change (∃ r, execWithdraw s = _) ∨ ∃ t, execWithdraw s = _ ∧ _
  unfold execWithdraw
  split
  next => exact Or.inl ⟨_, rfl⟩
  next =>
    split
    · exact Or.inl ⟨_, rfl⟩
    · exact Or.inl ⟨_, rfl⟩
    · exact Or.inr ⟨_, rfl, rfl⟩
    · exact Or.inr ⟨_, rfl, rfl⟩
    · exact Or.inr ⟨_, rfl, rfl⟩

theorem clearOffer_refusedOrDone (s : State) : RefusedOrDone .clearOffer s := by
  unfold RefusedOrDone
  change (∃ r, execClearOffer s = _) ∨ ∃ t, execClearOffer s = _ ∧ _
  unfold execClearOffer
  split
  next => exact Or.inl ⟨_, rfl⟩
  next =>
    split
    · exact Or.inr ⟨_, rfl, rfl⟩
    · exact Or.inl ⟨_, rfl⟩

/-- Settles O24: each command of the list places a result alone or is DONE. -/
theorem refusedCommandChangesOnlyTheResult : Obligations.RefusedCommandChangesOnlyTheResult := by
  unfold Obligations.RefusedCommandChangesOnlyTheResult
  intro c s t listed ht notDone
  have cases : RefusedOrDone c s := by
    simp only [List.mem_cons, List.not_mem_nil, or_false] at listed
    rcases listed with rfl | rfl | rfl | rfl | rfl | rfl | rfl | rfl | rfl | rfl | rfl | rfl
    · exact configure_refusedOrDone s
    · exact openSend_refusedOrDone s
    · exact post_refusedOrDone s
    · exact cancel_refusedOrDone s
    · exact resume_refusedOrDone s
    · exact discard_refusedOrDone s
    · exact take_refusedOrDone s
    · exact takeReport_refusedOrDone s
    · exact openOffer_refusedOrDone s
    · exact postOffer_refusedOrDone s
    · exact withdraw_refusedOrDone s
    · exact clearOffer_refusedOrDone s
  rcases cases with ⟨r, refused⟩ | ⟨u, next, done⟩
  · cases refused.symm.trans ht
    rfl
  · cases next.symm.trans ht
    exact absurd done notDone

/-! ### DRAIN DATA -/

theorem readByte_of_cell (p : Pool) {cells : List CellNumber} {k : Nat} {c : CellNumber}
    (place : cells[k / 32]? = some c) : p.readByte cells k = p.mem.read (32 * c.val + k % 32) := by
  simp [Pool.readByte, chainAddress, place]

theorem exec_drainData_of_some {s : State} {b : Byte} (byte : s.drainByte = some b) :
    exec .drainData s = .next { s.withRecv { s.recv with drain := s.recv.drain.map (· + 1) } with busData := b } := by
  change execDrainData s = _
  simp only [execDrainData, byte]

theorem exec_drainData_of_none {s : State} (none : s.drainByte = none) :
    exec .drainData s = .next { s.windowError with busData := 0 } := by
  change execDrainData s = _
  simp only [execDrainData, none]

/-- Settles O26: DRAIN DATA within the head record, and with no byte to reach. -/
theorem drainDataReturnsTheByteOrIsAWindowError : Obligations.DrainDataReturnsTheByteOrIsAWindowError := by
  unfold Obligations.DrainDataReturnsTheByteOrIsAWindowError
  refine ⟨fun s n head rest c attached list below cell => ?_, fun s unreached => ?_⟩
  · have byte : s.drainByte = some (s.pool.mem.read (32 * c.val + n % 32)) := by
      simp [State.drainByte, attached, list, below, readByte_of_cell _ cell]
    rw [exec_drainData_of_some byte, attached]
    rfl
  · have none : s.drainByte = none := by
      rcases unreached with ⟨list, detached⟩ | ⟨n, head, rest, list, attached, atEnd⟩
      · simp [State.drainByte, list]
      · simp [State.drainByte, list, attached, atEnd]
    have flag : ({ s.windowError with busData := 0 } : State).eventFlags.getLsbD 6 = true :=
      eventFlags_getLsbD _ 6 (by decide)
    exact ⟨exec_drainData_of_none none, flag, fun enabled => (int_eq_true_iff _).mpr ⟨6, by decide, flag, enabled⟩⟩

/-! ### Register writes, INT and the request outputs -/

theorem exec_registerWrite_of_readOnly {r : WindowRegister} (readOnly : r = .status ∨ r = .drainData ∨ ∃ n, r = .view n)
    (s : State) (v : Byte) : exec (.registerWrite r v) s = .next s.windowError := by
  rcases readOnly with rfl | rfl | ⟨n, rfl⟩ <;> rfl

/-- R187, in the words of the statement: the cursor's buffer is a send entry or an offer. -/
theorem fillRequest_iff_buffer (s : State) : s.fillRequest = true ↔
    (∃ h n, s.window.fill = some { buffer := .send h, position := n } ∧ n < (s.entry h).length)
      ∨ ∃ i n, s.window.fill = some { buffer := .offer i, position := n } ∧ n < (s.offerAt i).length := by
  rw [fillRequest_iff]
  constructor
  · rintro ⟨⟨buffer, n⟩, attached, below⟩
    cases buffer with
    | send h => exact Or.inl ⟨h, n, attached, below⟩
    | offer i => exact Or.inr ⟨i, n, attached, below⟩
  · rintro (⟨h, n, attached, below⟩ | ⟨i, n, attached, below⟩)
    · exact ⟨_, attached, below⟩
    · exact ⟨_, attached, below⟩

theorem hostWrite_view (v : Byte) (low : Bool) (n : Fin 6) :
    hostWrite (BitVec.ofNat 4 (10 + n.val)) v low = .registerWrite (.view n) v := by
  revert n
  intro n
  fin_cases n <;> rfl

/-- Settles O28: the enables, INT and the flags; the operand registers; the commands of the writes; the result codes. -/
theorem registerWritesAndInt : Obligations.RegisterWritesAndInt := by
  unfold Obligations.RegisterWritesAndInt
  refine ⟨fun s => ⟨fun v => rfl, int_eq_true_iff s, ?_, ?_, ?_, ?_, fillRequest_iff_buffer s, drainRequest_iff s⟩,
    fun s v => ⟨rfl, rfl, rfl, rfl, fun r readOnly => exec_registerWrite_of_readOnly readOnly s v, rfl, rfl, rfl, rfl, rfl,
      rfl, ?_⟩, fun v low => ⟨rfl, rfl, rfl, rfl, rfl, rfl, rfl, rfl, rfl, rfl, hostWrite_view v low⟩, rfl⟩
  · rw [eventFlags_getLsbD s 0 (by decide)]
    simp [State.received]
  · rw [eventFlags_getLsbD s 1 (by decide)]
    simp [State.reportWaiting]
  · rw [eventFlags_getLsbD s 2 (by decide)]
    simpa [State.offerTaken] using anyOffer_iff s (fun o => o.state == .taken)
  · rw [eventFlags_getLsbD s 3 (by decide)]
    simpa [State.anySuspended] using anyDest_iff s (fun d => d.suspended)
  · change s.events.enables.setWidth 8 = _
    exact BitVec.setWidth_eq_append (by decide)

end Sys2Proof.Machine

/-! SUPPORT. What the host's reads show: STATUS, the views of page 0 and page 1, and the statement about them. -/

namespace Sys2Proof.Machine
namespace State

/-! ### STATUS -/

/-- TABLE 11-1: the fields of STATUS at their places. -/
theorem statusByte_fields (s : State) :
    s.statusByte.extractLsb' 0 3 = s.line.state.code ∧ s.statusByte.getLsbD 3 = s.line.holdOff
      ∧ s.statusByte.getLsbD 4 = s.queue.halted ∧ s.statusByte.getLsbD 7 = (s.line.state != .off)
      ∧ s.statusByte.extractLsb' 5 2 = s.stagingCode := by
  unfold statusByte
  generalize s.line.state.code = code
  generalize s.line.holdOff = holdOff
  generalize s.queue.halted = halted
  generalize (s.line.state != .off) = enabled
  generalize s.stagingCode = staging
  revert code holdOff halted enabled staging
  decide

/-! ### Views -/

/-- VIEW 0 to VIEW 5 show the fields, and 0x00 past them, while VIEW SELECT names the view. -/
def shows (s : State) (select : Byte) (fields : List Byte) : Prop :=
  s.window.viewSelect = select → ∀ n, n < 6 → s.hostRead (BitVec.ofNat 4 (10 + n)) = fields[n]?.getD 0

/-- R198: the page that the code names, with its fields. -/
theorem shows_of_page {s : State} {select : Byte} {fields : List Byte}
    (page : s.viewPage (select.extractLsb' 0 7) (select.getLsbD 7) = fields) : s.shows select fields := by
  intro selected n register
  rw [s.hostRead_view n register, viewRegister, selected, page]

/-- R149, R180: with an empty list the page shows 0x00 throughout. -/
theorem shows_of_zeros {s : State} {select : Byte} {k : Nat}
    (page : s.viewPage (select.extractLsb' 0 7) (select.getLsbD 7) = List.replicate k 0) : s.shows select [] := by
  intro selected n register
  rw [s.hostRead_view n register, viewRegister, selected, page, List.getElem?_replicate]
  split <;> rfl

/-- R196: the position that the view of a buffer shows. -/
theorem fillPosition_cursor (s : State) (b : Buffer) :
    (∀ n, s.window.fill = some { buffer := b, position := n } → s.fillPosition b = BitVec.ofNat 8 n)
      ∧ ((∀ n, s.window.fill ≠ some { buffer := b, position := n }) → s.fillPosition b = 0) :=
  ⟨s.fillPosition_of_attached b, s.fillPosition_of_not_attached b⟩

/-! ### Send entries -/

theorem shownEntry_of_posted {e : SendEntry} (posted : e.state.unfinished = true ∨ e.state = .finished) :
    shownEntry e = e := by
  refine if_neg ?_
  rintro (free | staging)
  · simp [free, EntryState.unfinished] at posted
  · simp [staging, EntryState.unfinished] at posted

theorem shownEntry_of_unposted {e : SendEntry} (unposted : e.state = .free ∨ e.state = .staging) :
    shownEntry e = { SendEntry.free with state := e.state, length := e.length, cells := e.cells } := if_pos unposted

theorem viewSendEntry_of_posted {s : State} {h : Handle} {k : Kind}
    (posted : (s.entry h).state.unfinished = true ∨ (s.entry h).state = .finished) (kind : (s.entry h).kind = some k) :
    s.viewSendEntry h =
      [(s.entry h).state.code ++ k.code,
        (s.entry h).dest ++ (BitVec.ofBool (s.entry h).urgent ++ BitVec.ofBool (s.entry h).cancelPending ++ (0 : BitVec 2)),
        BitVec.ofNat 8 (s.entry h).length, (s.entry h).postNumber, (s.entry h).tag,
        BitVec.ofNat 4 (s.entry h).retryLimit ++ BitVec.ofNat 4 (s.entry h).attempts] := by
  simp only [viewSendEntry, shownEntry_of_posted posted, kind]
  rfl

theorem viewSendEntry_of_unposted {s : State} {h : Handle}
    (unposted : (s.entry h).state = .free ∨ (s.entry h).state = .staging) :
    s.viewSendEntry h =
      [(s.entry h).state.code ++ (0 : Nibble), 0, BitVec.ofNat 8 (s.entry h).length, 0, 0, 0] := by
  simp only [viewSendEntry, shownEntry_of_unposted unposted]
  rfl

/-- R55, R70: the timer is shown in BACKOFF, the outcome once the entry has finished. -/
theorem viewSendEntryTimer_of_posted {s : State} {h : Handle}
    (posted : (s.entry h).state.unfinished = true ∨ (s.entry h).state = .finished) :
    s.viewSendEntryTimer h =
      [(s.entry h).lastReason.code ++ (if (s.entry h).state = .finished then outcomeCode (s.entry h).outcome else 0),
        if (s.entry h).state = .backoff then BitVec.ofNat 8 ((s.entry h).backoff / 256 % 8) else 0,
        if (s.entry h).state = .backoff then BitVec.ofNat 8 (s.entry h).backoff else 0, s.fillPosition (.send h)] := by
  have outcome : outcomeCode (if (s.entry h).state = .finished then (s.entry h).outcome else none)
      = if (s.entry h).state = .finished then outcomeCode (s.entry h).outcome else 0 := by split <;> rfl
  obtain ⟨high, low⟩ := timer_bits (s.entry h).backoff
  simp only [viewSendEntryTimer, shownEntry_of_posted posted, outcome]
  by_cases waits : (s.entry h).state = .backoff
  · simp only [if_pos waits, high, low]; rfl
  · simp only [if_neg waits]; rfl

theorem viewSendEntryTimer_of_unposted {s : State} {h : Handle}
    (unposted : (s.entry h).state = .free ∨ (s.entry h).state = .staging) :
    s.viewSendEntryTimer h = [0, 0, 0, s.fillPosition (.send h)] := by
  simp only [viewSendEntryTimer, shownEntry_of_unposted unposted]
  rcases unposted with e | e <;> rw [e] <;> rfl

/-! ### Destinations, sources and offers -/

theorem viewPage_destination (s : State) (d : Nibble) :
    s.viewPage ((0x20 + d.setWidth 8 : Byte).extractLsb' 0 7) ((0x20 + d.setWidth 8 : Byte).getLsbD 7)
      = s.viewDestination d := by
  have code : ∀ d : Nibble, (0x20 + d.setWidth 8 : Byte).getLsbD 7 = false
      ∧ (0x20 + d.setWidth 8 : Byte).extractLsb' 0 7 ≠ 0 ∧ (0x20 + d.setWidth 8 : Byte).extractLsb' 0 7 ≠ 1
      ∧ ((0x20 + d.setWidth 8 : Byte).extractLsb' 0 7).toNat = 32 + d.toNat
      ∧ ((0x20 + d.setWidth 8 : Byte).extractLsb' 0 7).extractLsb' 0 4 = d := by decide
  obtain ⟨page0, notRecord, notReport, number, destination⟩ := code d
  have small := d.isLt
  simp only [viewPage, page0, destination]
  rw [if_neg notRecord, if_neg notReport, dif_neg (by omega), if_pos (by omega)]

theorem viewPage_source (s : State) {o : Nibble} (known : o ≠ 15) :
    s.viewPage ((0x30 + o.setWidth 8 : Byte).extractLsb' 0 7) ((0x30 + o.setWidth 8 : Byte).getLsbD 7)
      = s.viewSource o := by
  have code : ∀ o : Nibble, (0x30 + o.setWidth 8 : Byte).getLsbD 7 = false
      ∧ (0x30 + o.setWidth 8 : Byte).extractLsb' 0 7 ≠ 0 ∧ (0x30 + o.setWidth 8 : Byte).extractLsb' 0 7 ≠ 1
      ∧ ((0x30 + o.setWidth 8 : Byte).extractLsb' 0 7).toNat = 48 + o.toNat
      ∧ ((0x30 + o.setWidth 8 : Byte).extractLsb' 0 7).extractLsb' 0 4 = o := by decide
  obtain ⟨page0, notRecord, notReport, number, origin⟩ := code o
  have small := o.isLt
  simp only [viewPage, page0, origin]
  rw [if_neg notRecord, if_neg notReport, dif_neg (by omega), if_neg (by omega), if_pos ⟨by omega, known⟩]

/-- R157: the place of an offer in the order, counted from 1. -/
theorem offerPlace_of_split {s : State} {i : OfferIndex} {older newer : List OfferIndex}
    (order : s.offers.order = older ++ i :: newer) (first : i ∉ older) : s.offerPlace i = older.length + 1 := by
  have contained : s.offers.order.contains i = true := by simp [order]
  rw [offerPlace, if_pos contained, order, List.idxOf_append_of_notMem first, List.idxOf_cons_self, Nat.add_zero]

theorem offerPlace_of_notMem {s : State} {i : OfferIndex} (out : i ∉ s.offers.order) : s.offerPlace i = 0 :=
  if_neg (by simpa using out)

theorem viewOffer_of_not_free {s : State} {i : OfferIndex} (used : (s.offerAt i).state ≠ .free) :
    s.viewOffer i =
      [(s.offerAt i).state.code ++ ((0 : BitVec 3) ++ BitVec.ofBool (s.offerAt i).withdrawPending),
        (s.offerAt i).addressee ++ BitVec.ofNat 4 (s.offerPlace i), BitVec.ofNat 8 (s.offerAt i).length,
        (0 : Nibble) ++ (s.offerAt i).takenBy, s.fillPosition (.offer i)] := by
  have flag (b : Bool) : flagBit b = (0 : BitVec 3) ++ BitVec.ofBool b := by cases b <;> rfl
  have taken : (s.offerAt i).takenBy.setWidth 8 = (0 : Nibble) ++ (s.offerAt i).takenBy :=
    BitVec.setWidth_eq_append (by decide)
  simp only [viewOffer, if_neg used, flag, taken]
  rfl

/-- R156: a FREE offer is in no order, and no cursor is in it. -/
theorem viewOffer_of_free {s : State} {i : OfferIndex} (free : (s.offerAt i).state = .free) (offers : s.OffersKept)
    (staging : s.StagingKept) : s.viewOffer i = [0, 0, 0, 0, 0] := by
  have out : i ∉ s.offers.order := fun mem => by simpa [free] using (offers.orderMember i).mp mem
  have detached : s.fillPosition (.offer i) = 0 :=
    s.fillPosition_of_not_attached _ fun n attached => by simpa [free] using (staging.offerBuffer i).mpr ⟨n, attached⟩
  simp only [viewOffer, if_pos free, offerPlace_of_notMem out, detached]
  rfl

/-- R198: the codes of page 0 that name no view. -/
theorem viewPage_of_unnamed (s : State) {c : Byte} (unnamed : (0x02 ≤ c ∧ c ≤ 0x0F) ∨ (0x18 ≤ c ∧ c ≤ 0x1F) ∨ c = 0x3F
    ∨ (0x44 ≤ c ∧ c ≤ 0x4F) ∨ (0x53 ≤ c ∧ c ≤ 0x7F)) : s.viewPage (c.extractLsb' 0 7) (c.getLsbD 7) = [] := by
  have code : ∀ c : Byte, ((0x02 ≤ c ∧ c ≤ 0x0F) ∨ (0x18 ≤ c ∧ c ≤ 0x1F) ∨ c = 0x3F ∨ (0x44 ≤ c ∧ c ≤ 0x4F)
        ∨ (0x53 ≤ c ∧ c ≤ 0x7F)) → c.getLsbD 7 = false ∧ c.extractLsb' 0 7 ≠ 0 ∧ c.extractLsb' 0 7 ≠ 1
      ∧ ¬ (0x10 ≤ (c.extractLsb' 0 7).toNat ∧ (c.extractLsb' 0 7).toNat < 0x18)
      ∧ (c.extractLsb' 0 7).toNat / 16 ≠ 2
      ∧ ¬ ((c.extractLsb' 0 7).toNat / 16 = 3 ∧ (c.extractLsb' 0 7).extractLsb' 0 4 ≠ 15)
      ∧ ¬ (0x40 ≤ (c.extractLsb' 0 7).toNat ∧ (c.extractLsb' 0 7).toNat < 0x44)
      ∧ c.extractLsb' 0 7 ≠ 0x50 ∧ c.extractLsb' 0 7 ≠ 0x51 ∧ c.extractLsb' 0 7 ≠ 0x52 := by decide
  obtain ⟨page0, notRecord, notReport, notEntry, notDest, notSource, notOffer, notPool, notStats, notConfig⟩ :=
    code c unnamed
  simp only [viewPage, page0]
  rw [if_neg notRecord, if_neg notReport, dif_neg notEntry, if_neg notDest, if_neg notSource, dif_neg notOffer,
    if_neg notPool, if_neg notStats, if_neg notConfig]

/-! ### The lists -/

theorem viewHeadReport_of_cons {s : State} {r : Report} {rest : List Report} {k : Kind}
    (list : s.reports.records = r :: rest) (kind : r.kind = some k) :
    s.viewHeadReport =
      [BitVec.ofNat 4 s.reports.records.length ++ BitVec.ofNat 4 s.reports.waiting.length,
        k.code ++ BitVec.ofNat 4 r.handle.val, r.postNumber, r.dest ++ BitVec.ofNat 4 r.attempts,
        outcomeCode r.outcome ++ r.lastReason.code] := by
  have code : ∀ (k : Kind) (h : Handle), (0 : BitVec 1) ++ (kindCode (some k)).extractLsb' 0 3 ++ (0 : BitVec 1)
      ++ BitVec.ofNat 3 h.val = k.code ++ BitVec.ofNat 4 h.val := by
    intro k
    cases k <;> decide
  simp only [viewHeadReport, list, kind, code]
  rfl

end State

/-- Settles O29: the codes, STATUS, and the views one by one. -/
theorem hostReadsShowTheStateAsItStands : Obligations.HostReadsShowTheStateAsItStands := by
  unfold Obligations.HostReadsShowTheStateAsItStands
  refine ⟨fun h r => ⟨rfl, rfl, rfl, rfl, rfl, rfl, rfl⟩, fun s => ?_⟩
  obtain ⟨state, holdOff, halted, enabled, staging⟩ := s.statusByte_fields
  refine ⟨⟨state, holdOff, halted, ?enabled, ?staging⟩, fun r rest list => State.shows_of_page ?record,
    fun empty => State.shows_of_zeros (k := 6) ?noRecord, State.shows_of_page rfl,
    fun r rest list k kind => State.shows_of_page (State.viewHeadReport_of_cons list kind),
    fun empty => State.shows_of_zeros (k := 6) ?noReport, fun h => ⟨fun k posted kind => State.shows_of_page ?entry,
      fun unposted => State.shows_of_page ?unposted, _, s.fillPosition_cursor (.send h),
      fun posted => State.shows_of_page ?timer, fun unposted => State.shows_of_page ?noTimer⟩,
    fun d => State.shows_of_page (s.viewPage_destination d), fun o known => State.shows_of_page (s.viewPage_source known),
    fun i => ⟨fun free offers staging => State.shows_of_page ?freeOffer, fun used => ⟨s.offerPlace i, _,
      s.fillPosition_cursor (.offer i), fun older newer => State.offerPlace_of_split, State.offerPlace_of_notMem,
      State.shows_of_page ?offer⟩⟩,
    State.shows_of_page rfl, State.shows_of_page rfl, State.shows_of_page rfl,
    fun c unnamed => State.shows_of_page (s.viewPage_of_unnamed unnamed),
    fun c page1 other => State.shows_of_page (s.viewPage_of_page1 c page1 other)⟩
  case enabled => exact (Bool.eq_iff_iff.mp enabled).trans bne_iff_ne
  case staging =>
    refine staging.trans ?_
    unfold State.stagingCode
    simp only [anyEntry_iff, anyOffer_iff, beq_iff_eq]
  case record =>
    change s.viewHeadRecord = _
    simp only [State.viewHeadRecord, list]
    rfl
  case noRecord =>
    change s.viewHeadRecord = _
    simp only [State.viewHeadRecord, empty]
    rfl
  case noReport =>
    change s.viewHeadReport = _
    simp only [State.viewHeadReport, empty]
    rfl
  case entry => exact (s.viewPage_sendEntry h).trans (State.viewSendEntry_of_posted posted kind)
  case unposted => exact (s.viewPage_sendEntry h).trans (State.viewSendEntry_of_unposted unposted)
  case timer => exact (s.viewPage_sendEntryTimer h).trans (State.viewSendEntryTimer_of_posted posted)
  case noTimer => exact (s.viewPage_sendEntryTimer h).trans (State.viewSendEntryTimer_of_unposted unposted)
  case freeOffer => exact (s.viewPage_offer i).trans (State.viewOffer_of_free free offers staging)
  case offer => exact (s.viewPage_offer i).trans (State.viewOffer_of_not_free used)

end Sys2Proof.Machine

/-! SUPPORT. The line below the frame: what LCL seen released does role by role, what a withdrawn master becomes, and the
statements about LCL, the timers, the differences in readback and the frames driven. -/

namespace Sys2Proof.Machine
namespace State

/-! ### LCL seen released -/

/-- R14: a listener ends its part, clears hold-off and settles. -/
theorem seeRelease_of_listener {s : State} {r : Role} (listens : s.line.state = .listener r) :
    s.seeRelease = s.endEarly.withLine s.endEarly.line.settled := by
  rw [← clearHoldOff_enterSettling]
  simp [seeRelease, listens]

theorem endEarly_of_bystander {s : State} (bystander : s.line.state = .listener .bystander) : s.endEarly = s := by
  simp [endEarly, bystander]

theorem endEarly_of_undecided {s : State} (undecided : s.line.state = .listener .undecided) : s.endEarly = s := by
  simp [endEarly, undecided]

/-- R139: an exchange accepted and not complete is cut short. -/
theorem endEarly_of_accepted {s : State} (addressed : s.line.state = .listener .addressed)
    (accepted : s.line.record.answer = some .accept) (going : s.line.phase ≠ .complete) :
    s.endEarly = s.discardIntake.withStats { s.window.stats with cutShort := countUp s.window.stats.cutShort } := by
  simp [endEarly, addressed, accepted, going]

theorem endEarly_of_not_accepted {s : State} (addressed : s.line.state = .listener .addressed)
    (done : s.line.record.answer ≠ some .accept ∨ s.line.phase = .complete) : s.endEarly = s := by
  have ended : ¬ (s.line.record.answer = some .accept ∧ s.line.phase ≠ .complete) :=
    fun ⟨accepted, going⟩ => done.elim (fun other => other accepted) going
  simp only [endEarly, addressed, if_neg ended]

theorem endEarly_of_gathering_none {s : State} (gathering : s.line.state = .listener .gathering)
    (none : s.recv.intake = none) : s.endEarly = s := by
  simp [endEarly, gathering, none]

theorem endEarly_of_gathering_some {s : State} (gathering : s.line.state = .listener .gathering) {m : Intake}
    (some : s.recv.intake = some m) : s.endEarly = s.missBroadcast := by
  simp [endEarly, gathering, some]

theorem endEarly_of_serving {s : State} {i : OfferIndex} (serving : s.line.state = .listener (.serving i)) :
    s.endEarly = s.returnOffer i := by
  simp [endEarly, serving]

/-- R137: the intake is discarded, the counter rises and BROADCAST MISSED is set. -/
theorem missBroadcast_of_some {s : State} {m : Intake} (some : s.recv.intake = some m) :
    s.missBroadcast =
      { s with
        pool := s.pool.release m.cells, recv := { s.recv with intake := none }
        window := { s.window with stats := { s.window.stats with
          broadcastsMissed := countUp s.window.stats.broadcastsMissed } }
        events := { s.events with broadcastMissed := true } } := by
  rw [missBroadcast, discardIntake_of_some some]
  rfl

theorem missBroadcast_of_none {s : State} (none : s.recv.intake = none) :
    s.missBroadcast =
      { s with
        window := { s.window with stats := { s.window.stats with
          broadcastsMissed := countUp s.window.stats.broadcastsMissed } }
        events := { s.events with broadcastMissed := true } } := by
  rw [missBroadcast, discardIntake_of_none none]
  rfl

end State

/-- Settles O30: LCL going low state by state, and LCL released state by state and role by role. -/
theorem lclGoingLowAndReleaseActByTheStateAndRole : Obligations.LclGoingLowAndReleaseActByTheStateAndRole := by
  unfold Obligations.LclGoingLowAndReleaseActByTheStateAndRole
  refine ⟨fun s => ⟨fun resting => ?_, fun notSettling notQuiet => ?_⟩, fun s => ?_⟩
  · change execLclSeenGoingLow s = _
    rcases resting with e | e <;> simp only [execLclSeenGoingLow, e] <;> rfl
  · change execLclSeenGoingLow s = _
    unfold execLclSeenGoingLow
    split <;> simp_all
  have settled {r : Role} (listens : s.line.state = .listener r) {u : State} (ends : s.endEarly = u) :
      exec .lclSeenReleased s = .next (u.withLine u.line.settled) :=
    congrArg Host.Outcome.next (ends ▸ State.seeRelease_of_listener listens)
  refine ⟨fun ended => ?_, fun joining holdOff longQuiet => ?_,
    fun addressed => ⟨fun accepted going => ⟨fun none => settled addressed ?_, fun m some => settled addressed ?_⟩,
      fun done => settled addressed (State.endEarly_of_not_accepted addressed done)⟩,
    fun gathering => ⟨fun none => settled gathering (State.endEarly_of_gathering_none gathering none),
      fun m some => settled gathering ?_⟩,
    fun i serving => ⟨fun going => settled serving ?_, fun pending => settled serving ?_⟩, fun deaf => ?_⟩
  · rcases ended with stuck | undecided | bystander
    · change Host.Outcome.next s.seeRelease = _
      simp only [State.seeRelease, stuck]
      rfl
    · exact settled undecided (State.endEarly_of_undecided undecided)
    · exact settled bystander (State.endEarly_of_bystander bystander)
  · change Host.Outcome.next s.seeRelease = _
    simp only [State.seeRelease, joining, State.enterSettling, State.withLine, holdOff, longQuiet]
  · rw [State.endEarly_of_accepted addressed accepted going, State.discardIntake_of_none none]
    rfl
  · rw [State.endEarly_of_accepted addressed accepted going, State.discardIntake_of_some some]
    rfl
  · rw [State.endEarly_of_gathering_some gathering some, State.missBroadcast_of_some some]
    rfl
  · rw [State.endEarly_of_serving serving, State.returnOffer_of_not_pending going]
    rfl
  · rw [State.endEarly_of_serving serving, State.returnOffer_of_pending pending]
    rfl
  · change Host.Outcome.next s.seeRelease = _
    rcases deaf with e | e | e | ⟨h, e⟩ <;> simp only [State.seeRelease, e]

/-! ### Timers -/

namespace State

/-- R16: the node gives up what it holds and becomes STUCK. -/
theorem becomeStuck_of_giveUp {s u : State} (gives : s.giveUp = u) (window : u.window = s.window) :
    s.becomeStuck =
      { u with
        line := { s.line with
          state := .stuck, quietTimer := none, longQuietTimer := none, claimTimer := none
          phase := .idle, frames := .cleared, record := .cleared }
        window := { s.window with stats := { s.window.stats with lineStuck := countUp s.window.stats.lineStuck } }
        events := { s.events with lineStuck := true } } := by
  rw [becomeStuck, gives, withStats, window]
  rfl

end State

/-- Settles O31: each timer's expiry in the states in which it runs, and in the others. -/
theorem timerExpiriesActWhileTheirTimersRun : Obligations.TimerExpiriesActWhileTheirTimersRun := by
  unfold Obligations.TimerExpiriesActWhileTheirTimersRun
  refine ⟨fun s => ⟨fun settling => ?_, fun other => congrArg _ (if_neg other), fun n runs => ?_, fun stopped => ?_⟩,
    fun s => ?_, fun s h => ⟨fun backoff => congrArg _ (if_pos backoff), fun other => congrArg _ (if_neg other)⟩⟩
  · exact congrArg _ (if_pos settling)
  · exact congrArg _ (if_pos (by simp [runs]))
  · exact congrArg _ (if_neg (by simp [stopped]))
  have runs (state : s.line.state = .joining ∨ ∃ r, s.line.state = .listener r) :
      exec .claimLimitTimerExpires s = .next s.becomeStuck :=
    congrArg _ (s.claimLimitExpiry_of_runs ((claimTimerRuns_iff s).mpr state))
  have stuck {u : State} (gives : s.giveUp = u) (window : u.window = s.window) :=
    congrArg (Host.Outcome.next (φ := Fault) (ρ := Refusal)) (State.becomeStuck_of_giveUp gives window)
  refine ⟨fun joining => (runs (Or.inl joining)).trans (stuck (State.giveUp_of_joining joining) rfl),
    fun r listens notServing => ⟨fun none => (runs (Or.inr ⟨r, listens⟩)).trans (stuck ?_ rfl),
      fun m some => (runs (Or.inr ⟨r, listens⟩)).trans (stuck ?_ rfl)⟩,
    fun i serving none => ⟨fun going => (runs (Or.inr ⟨_, serving⟩)).trans (stuck ?_ rfl),
      fun pending => (runs (Or.inr ⟨_, serving⟩)).trans (stuck ?_ rfl)⟩, fun deaf => ?_⟩
  · rw [State.giveUp_of_listener listens notServing, State.discardIntake_of_none none]
  · rw [State.giveUp_of_listener listens notServing, State.discardIntake_of_some some]
  · rw [State.giveUp_of_serving serving, State.discardIntake_of_none none, State.returnOffer_of_not_pending going]
    rfl
  · rw [State.giveUp_of_serving serving, State.discardIntake_of_none none, State.returnOffer_of_pending pending]
    rfl
  · change Host.Outcome.next s.claimLimitExpiry = _
    rcases deaf with e | e | e | e | ⟨h, e⟩ <;> simp only [State.claimLimitExpiry, e]

end Sys2Proof.Machine

/-! SUPPORT. The master that meets a difference, and what each end drives. -/

namespace Sys2Proof.Machine
namespace State

/-! ### The master withdraws -/

/-- R9: the Line Engine and the counter of a master that has lost arbitration. -/
theorem loseArbitration_eq (s : State) (h : Handle) :
    s.loseArbitration h =
      { s.handBack h with
        line := { s.line with
          state := .listener .undecided, claimTimer := some 0, phase := .h0, frames := .cleared, record := .cleared }
        window := { s.window with stats := { s.window.stats with claimsLost := countUp s.window.stats.claimsLost } } } := by
  rw [loseArbitration, withStats, handBack_window]
  rfl

/-- R10: the Line Engine and the counter of a master that has met a conflict. -/
theorem meetConflict_eq (s : State) (h : Handle) :
    s.meetConflict h =
      { s.consume h .conflict with
        line := { s.line with state := .listener .bystander, claimTimer := some 0, record := .cleared }
        window := { s.window with stats := { s.window.stats with conflicts := countUp s.window.stats.conflicts } } } := by
  rw [meetConflict, withStats, consume_window]
  rfl

/-- A node that holds nothing settles at once when LCL is seen released. -/
theorem seeRelease_of_bystander {s : State} (bystander : s.line.state = .listener .bystander) :
    s.seeRelease = s.withLine s.line.settled := by
  rw [seeRelease_of_listener bystander, endEarly_of_bystander bystander]

theorem seeRelease_of_undecided {s : State} (undecided : s.line.state = .listener .undecided) :
    s.seeRelease = s.withLine s.line.settled := by
  rw [seeRelease_of_listener undecided, endEarly_of_undecided undecided]

theorem meetConflict_bystander (s : State) (h : Handle) : (s.meetConflict h).line.state = .listener .bystander := rfl

theorem meetConflict_phase (s : State) (h : Handle) : (s.meetConflict h).line.phase = s.line.phase := rfl

/-- R94, R97: a collector drives no payload and no check word, and the master of another kind no verdict. -/
theorem not_collect_of_masterFrame {s : State} {h : Handle} {d : Byte} (drives : s.masterFrame h = some d)
    (phase : (∃ k, s.line.phase = .p k) ∨ s.line.phase = .c0 ∨ s.line.phase = .c1) : s.line.kind ≠ some .collect := by
  intro collect
  rcases phase with ⟨k, e⟩ | e | e <;> simp [masterFrame, e, collect] at drives

theorem collect_of_masterFrame {s : State} {h : Handle} {d : Byte} (drives : s.masterFrame h = some d)
    (phase : s.line.phase = .v) : s.line.kind = some .collect := by
  by_contra other
  simp [masterFrame, phase, other] at drives

end State

theorem exec_conflict_of_drives {s : State} {h : Handle} (master : s.line.state = .master h) (phase : s.line.phase ≠ .h0)
    (drives : (s.masterFrame h).isSome = true) (low : Bool) :
    exec (.conflict low) s = if low then .next (s.meetConflict h) else .next (s.meetConflict h).seeRelease := by
  change execConflict low s = _
  simp only [execConflict, master, if_pos (show s.line.phase ≠ .h0 ∧ (s.masterFrame h).isSome = true from ⟨phase, drives⟩)]

/-- R8: a frame that the master drove comes back different, with LCL held by another: the node is the BYSTANDER of a
conflict, and holds the frame. -/
theorem exec_differing_low {s : State} {h : Handle} {f d g : Byte} {c : Instr} (master : s.line.state = .master h)
    (drives : s.masterFrame h = some d) (differs : f ≠ d)
    (frame : s.line.phase = .h1 ∧ c = .h1Completes f ∨ s.line.phase = .h2 ∧ c = .h2Completes f
      ∨ s.line.phase = .h3 ∧ c = .h3Completes f ∨ (∃ k, s.line.phase = .p k) ∧ c = .payloadFrameCompletes f g
      ∨ s.line.phase = .c0 ∧ c = .c0Completes f g ∨ s.line.phase = .c1 ∧ c = .c1Completes f g true
      ∨ s.line.phase = .v ∧ c = .vCompletes f g true) :
    exec c s = .next ((s.meetConflict h).holdCarried f)
      ∧ exec c (s.meetConflict h) = .next ((s.meetConflict h).holdCarried f) := by
  have other : ¬ s.masterFrame h = some f := fun same => differs (Option.some.inj (same.symm.trans drives))
  obtain ⟨h1, h2, h3, payload, c0, c1, v⟩ :=
    exec_frame_of_withdrawn (s.meetConflict h) (s.meetConflict_bystander h) f g true
  rcases frame with ⟨e, rfl⟩ | ⟨e, rfl⟩ | ⟨e, rfl⟩ | ⟨⟨k, e⟩, rfl⟩ | ⟨e, rfl⟩ | ⟨e, rfl⟩ | ⟨e, rfl⟩
  · refine ⟨?_, h1 e⟩
    change execH1Completes f s = _
    simp only [execH1Completes, master, e, if_neg other]
  · refine ⟨?_, h2 e⟩
    change execH2Completes f s = _
    simp only [execH2Completes, master, e, if_neg other]
  · refine ⟨?_, h3 e⟩
    change execH3Completes f s = _
    simp only [execH3Completes, master, e, if_neg other]
  · refine ⟨?_, payload k e⟩
    change execPayloadFrameCompletes f g s = _
    have kind := State.not_collect_of_masterFrame drives (Or.inl ⟨k, e⟩)
    simp only [execPayloadFrameCompletes, master, e, if_neg kind, if_neg other]
  · refine ⟨?_, c0 e⟩
    change execC0Completes f g s = _
    have kind := State.not_collect_of_masterFrame drives (Or.inr (Or.inl e))
    simp only [execC0Completes, master, e, if_neg kind, if_neg other]
  · refine ⟨?_, c1 e⟩
    change execC1Completes f g true s = _
    have kind := State.not_collect_of_masterFrame drives (Or.inr (Or.inr e))
    simp only [execC1Completes, master, e, if_neg kind, if_neg other]
    rfl
  · refine ⟨?_, v e⟩
    change execVCompletes f g true s = _
    simp only [execVCompletes, master, e, if_pos (State.collect_of_masterFrame drives e), if_neg other]
    rfl

/-- R8: the same in C1 and V with LCL released. -/
theorem exec_differing_released {s : State} {h : Handle} {f d g : Byte} {c : Instr} (master : s.line.state = .master h)
    (drives : s.masterFrame h = some d) (differs : f ≠ d)
    (frame : s.line.phase = .c1 ∧ c = .c1Completes f g false ∨ s.line.phase = .v ∧ c = .vCompletes f g false) :
    exec c s = exec (.conflict false) s := by
  have other : ¬ s.masterFrame h = some f := fun same => differs (Option.some.inj (same.symm.trans drives))
  have late : s.line.phase ≠ .h0 := by rcases frame with ⟨e, -⟩ | ⟨e, -⟩ <;> simp [e]
  rw [exec_conflict_of_drives master late (by simp [drives]),
    ← State.seeRelease_holdCarried _ f (s.meetConflict_bystander h)]
  rcases frame with ⟨e, rfl⟩ | ⟨e, rfl⟩
  · change execC1Completes f g false s = _
    have kind := State.not_collect_of_masterFrame drives (Or.inr (Or.inr e))
    simp only [execC1Completes, master, e, if_neg kind, if_neg other]
    rfl
  · change execVCompletes f g false s = _
    simp only [execVCompletes, master, e, if_pos (State.collect_of_masterFrame drives e), if_neg other]
    rfl

/-- R8, R118: the frame at its place among those held. -/
theorem holdCarried_of_phase {s : State} {p : Phase} (phase : s.line.phase = p) (f : Byte) :
    s.holdCarried f = { s with line := { s.line with frames := s.line.frames.carry p f, phase := .complete } } := by
  rw [← phase]
  rfl

/-- Settles O32: the loss of arbitration, the conflict, the frames that complete with a difference, and the frame held. -/
theorem differingReadbackEndsTheMastersAttempt : Obligations.DifferingReadbackEndsTheMastersAttempt := by
  unfold Obligations.DifferingReadbackEndsTheMastersAttempt
  refine ⟨fun s h master phase => ⟨?_, ?_⟩, fun s h master phase drives => ⟨?_, ?_⟩,
    fun s h f d g c master drives differs => ⟨fun frame => ?_, exec_differing_released master drives differs⟩,
    fun s f g low bystander => ?_⟩
  · change execLostArbitration true s = _
    simp only [execLostArbitration, master, phase, if_true, s.loseArbitration_eq]
    rfl
  · change execLostArbitration false s = _
    simp only [execLostArbitration, master, phase, Bool.false_eq_true, if_false]
    rw [State.seeRelease_of_undecided rfl, s.loseArbitration_eq]
    rfl
  · rw [exec_conflict_of_drives master phase drives, s.meetConflict_eq]
    rfl
  · rw [exec_conflict_of_drives master phase drives, State.seeRelease_of_bystander (s.meetConflict_bystander h),
      s.meetConflict_eq]
    rfl
  · have late : s.line.phase ≠ .h0 := by
      rcases frame with ⟨e, -⟩ | ⟨e, -⟩ | ⟨e, -⟩ | ⟨⟨k, e⟩, -⟩ | ⟨e, -⟩ | ⟨e, -⟩ | ⟨e, -⟩ <;> simp [e]
    obtain ⟨atMaster, atBystander⟩ := exec_differing_low master drives differs frame
    exact ⟨s.meetConflict h, exec_conflict_of_drives master late (by simp [drives]) true, atMaster.trans atBystander.symm⟩
  · obtain ⟨h1, h2, h3, payload, c0, c1, v⟩ := exec_frame_of_withdrawn s bystander f g low
    exact ⟨fun e => (h1 e).trans (congrArg _ (holdCarried_of_phase e f)),
      fun e => (h2 e).trans (congrArg _ (holdCarried_of_phase e f)),
      fun e => (h3 e).trans (congrArg _ (holdCarried_of_phase e f)),
      fun e => (c0 e).trans (congrArg _ (holdCarried_of_phase e f)),
      fun k e => (payload k e).trans (congrArg _ (holdCarried_of_phase e f)),
      fun e => (c1 e).trans (congrArg _ (holdCarried_of_phase e f)),
      fun e => (v e).trans (congrArg _ (holdCarried_of_phase e f))⟩

/-! ### What each end drives -/

namespace State

theorem lmdFrame_of_master {s : State} {h : Handle} (master : s.line.state = .master h) :
    s.lmdFrame = (s.masterFrame h).getD 0xFF ∧ s.lrdFrame = 0xFF := by
  simp [lmdFrame, lrdFrame, master]

theorem lmdFrame_of_not_master {s : State} (other : ∀ h, s.line.state ≠ .master h) :
    s.lmdFrame = 0xFF ∧ s.pullsLcl = false ∧ s.drivesLck = false := by
  cases e : s.line.state with
  | master h => exact absurd e (other h)
  | off | joining | settling | quiet | listener | stuck => simp [lmdFrame, pullsLcl, drivesLck, e]

theorem lrdFrame_of_not_listener {s : State} (other : ∀ r, s.line.state ≠ .listener r) : s.lrdFrame = 0xFF := by
  cases e : s.line.state with
  | listener r => exact absurd e (other r)
  | off | joining | settling | quiet | master | stuck => simp [lrdFrame, e]

/-- R3: of the listeners only an ADDRESSED and a SERVING node drive LRD. -/
theorem lrdFrame_of_other_role {s : State} {r : Role} (listens : s.line.state = .listener r) (notAddressed : r ≠ .addressed)
    (notServing : ∀ i, r ≠ .serving i) : s.lrdFrame = 0xFF := by
  cases r with
  | addressed => exact absurd rfl notAddressed
  | serving i => exact absurd rfl (notServing i)
  | undecided | gathering | bystander => simp [lrdFrame, listens]

theorem lrdFrame_of_addressed {s : State} (addressed : s.line.state = .listener .addressed) :
    s.lrdFrame = s.targetFrame.getD 0xFF := by simp [lrdFrame, addressed]

theorem lrdFrame_of_serving {s : State} {i : OfferIndex} (serving : s.line.state = .listener (.serving i)) :
    s.lrdFrame = (s.serverFrame i).getD 0xFF := by simp [lrdFrame, serving]

/-- R127, R129: the target drives its answer in A and its verdict in V. -/
theorem targetFrame_of_other_phase {s : State} (notA : s.line.phase ≠ .a) (notV : s.line.phase ≠ .v) :
    s.targetFrame = none := by
  cases e : s.line.phase with
  | a => exact absurd e notA
  | v => exact absurd e notV
  | idle | h0 | h1 | h2 | h3 | l | p | c0 | c1 | complete => simp [targetFrame, e]

end State

/-- TABLES 2-1, 2-2 and 11-1 as lists. -/
def Answer.all : List Answer := [.accept, .busy, .malformed, .noOffer]

def Verdict.all : List Verdict := [.good, .goodDuplicate, .check]

def Kind.all : List Kind := [.data, .probe, .broadcast, .collect]

theorem Answer.mem_all (a : Answer) : a ∈ Answer.all := by cases a <;> decide

theorem Verdict.mem_all (v : Verdict) : v ∈ Verdict.all := by cases v <;> decide

theorem Kind.mem_all (k : Kind) : k ∈ Kind.all := by cases k <;> decide

/-- R27: two answers driven together read as none of the codes, nor as a released line. -/
theorem Answer.mixed : ∀ a ∈ Answer.all, ∀ b ∈ Answer.all, a ≠ b →
    (∀ c ∈ Answer.all, a.code &&& b.code ≠ c.code) ∧ a.code &&& b.code ≠ 0xFF
      ∧ ∀ k ∈ Kind.all, classAnswer k (a.code &&& b.code) = .unclear := by decide

theorem Verdict.mixed : ∀ v ∈ Verdict.all, ∀ w ∈ Verdict.all, v ≠ w →
    (∀ x ∈ Verdict.all, v.code &&& w.code ≠ x.code) ∧ v.code &&& w.code ≠ 0xFF
      ∧ classVerdict (v.code &&& w.code) = none := by decide

/-- Settles O33: what the master, the target and the server drive phase by phase, and the codes. -/
theorem eachEndDrivesItsFramesAndMixedCodesAreUnclear : Obligations.EachEndDrivesItsFramesAndMixedCodesAreUnclear := by
  unfold Obligations.EachEndDrivesItsFramesAndMixedCodesAreUnclear
  refine ⟨fun s => ⟨fun h master => ⟨?_, ?_, ?_, ?_, fun other => ⟨?_, ?_, ?_, ?_⟩, fun collect => ⟨?_, ?_⟩, ?_,
    State.lmdFrame_of_master master⟩, fun addressed => ⟨?_, ?_, ?_, ?_⟩, fun i serving => ⟨?_, ?_, ?_, ?_, ?_, ?_, ?_⟩,
    fun r => State.lrdFrame_of_other_role, State.lrdFrame_of_not_listener, State.lmdFrame_of_not_master, fun master => ?_⟩,
    rfl, rfl, ?_, ?_, ?_, ?_⟩
  · exact fun e => by simp [State.masterFrame, e]
  · exact fun e => by simp [State.masterFrame, e]
  · exact fun e => by simp [State.masterFrame, e]
  · exact fun e => by simp [State.masterFrame, e]
  · exact fun k e => by simp [State.masterFrame, e, other]
  · exact fun e => by simp [State.masterFrame, e, other]
  · exact fun e => by simp [State.masterFrame, e, other]
  · exact fun e => by simp [State.masterFrame, e, other]
  · rintro (⟨k, e⟩ | e | e) <;> simp [State.masterFrame, e, collect]
  · exact fun e v verdict => by simp [State.masterFrame, e, collect, verdict]
  · rintro (e | e) <;> simp [State.masterFrame, e]
  · exact (State.lmdFrame_of_not_master (by simp [addressed])).1
  · exact fun e a answer => by simp [State.lrdFrame_of_addressed addressed, State.targetFrame, e, answer]
  · exact fun e v verdict => by simp [State.lrdFrame_of_addressed addressed, State.targetFrame, e, verdict]
  · exact fun notA notV => by simp [State.lrdFrame_of_addressed addressed, State.targetFrame_of_other_phase notA notV]
  · exact (State.lmdFrame_of_not_master (by simp [serving])).1
  · exact fun e => by simp [State.lrdFrame_of_serving serving, State.serverFrame, e, Answer.code]
  · exact fun e => by simp [State.lrdFrame_of_serving serving, State.serverFrame, e, byte]
  · exact fun k e => by simp [State.lrdFrame_of_serving serving, State.serverFrame, e]
  · exact fun e => by simp [State.lrdFrame_of_serving serving, State.serverFrame, e]
  · exact fun e => by simp [State.lrdFrame_of_serving serving, State.serverFrame, e]
  · exact fun e => by simp [State.lrdFrame_of_serving serving, State.serverFrame, e]
  · exact ⟨(pullsLcl_iff s).mpr master, (drivesLck_iff s).mpr master⟩
  · intro a b ne
    obtain ⟨noCode, driven, -⟩ := Answer.mixed a a.mem_all b b.mem_all ne
    exact ⟨fun c => noCode c c.mem_all, driven⟩
  · intro v w ne
    obtain ⟨noCode, driven, -⟩ := Verdict.mixed v v.mem_all w w.mem_all ne
    exact ⟨fun x => noCode x x.mem_all, driven⟩
  · intro k a b ne
    obtain ⟨-, -, unclear⟩ := Answer.mixed a a.mem_all b b.mem_all ne
    exact unclear k k.mem_all
  · intro v w ne
    obtain ⟨-, -, unclear⟩ := Verdict.mixed v v.mem_all w w.mem_all ne
    exact unclear

end Sys2Proof.Machine

/-! SUPPORT. The header at both ends, and the statement about H0 to H2. -/

namespace Sys2Proof.Machine

/-- R22: the kind of a code. -/
theorem ofCode_eq_some_iff (n : Nibble) (k : Kind) : Kind.ofCode n = some k ↔ k.code = n := by
  constructor
  · intro named
    have codes : ∀ n : Nibble, ∀ k ∈ Kind.all, Kind.ofCode n = some k → k.code = n := by decide
    exact codes n k k.mem_all named
  · rintro rfl
    exact kind_ofCode_code k

theorem LineEngine.kind_of_h0 {l : LineEngine} {b0 : Byte} (h0 : l.frames.h0 = some b0) :
    l.kind = Kind.ofCode (lo b0) := by simp [kind, kindField, h0]

/-- R36, R37: the sums with a header frame added where the kind's code is covered. -/
def LineEngine.summed (l : LineEngine) (code : Nibble) (f : Byte) : LineEngine :=
  if code = 1 ∨ code = 2 ∨ code = 3 then
    { l with s1 := addMod255 l.s1 f, s2 := addMod255 l.s2 (addMod255 l.s1 f) }
  else l

/-- The Line Engine of a listener that has read a header frame f, with H0 as held. -/
def LineEngine.heard (l : LineEngine) (b0 f : Byte) (fs : Frames) (p : Phase) : LineEngine :=
  { l.summed (lo b0) f with frames := fs, phase := p }

theorem headerRead_heard (s : State) {fs : Frames} {b0 : Byte} (h0 : fs.h0 = some b0) (f : Byte) (p : Phase) :
    s.headerRead fs f p = s.withLine (s.line.heard b0 f fs p) := by
  rw [headerRead_of_h0 s fs f p b0 h0, LineEngine.heard, LineEngine.summed, State.withLine]
  by_cases covered : lo b0 = 1 ∨ lo b0 = 2 ∨ lo b0 = 3
  · simp only [if_pos covered]
  · simp only [if_neg covered]

namespace State

/-! ### The master's header -/

/-- R34, R36: a header frame of the master moves the phase on, and the sums where the kind is covered. -/
theorem headerDriven_sums (s : State) (f : Byte) (p : Phase) :
    s.headerDriven f p =
      { s with line := { s.line with
        s1 := if (s.line.kind == some .data || s.line.kind == some .probe || s.line.kind == some .broadcast) = true
          then addMod255 s.line.s1 f else s.line.s1
        s2 := if (s.line.kind == some .data || s.line.kind == some .probe || s.line.kind == some .broadcast) = true
          then addMod255 s.line.s2 (addMod255 s.line.s1 f) else s.line.s2
        phase := p } } := by
  have covered : headerCovered s.line.kind
      = (s.line.kind == some .data || s.line.kind == some .probe || s.line.kind == some .broadcast) := by
    cases s.line.kind with
    | none => rfl
    | some k => cases k <;> rfl
  rw [headerDriven, LineEngine.addHeaderFrame, covered]
  split <;> rfl

/-! ### The role at H1 -/

/-- R117: the role is taken, and a BYSTANDER's phase is Complete. -/
theorem takeRole_of_role {s : State} {r : Role} (role : roleAtH1 s.window.settings.node s.line.target s.line.kind = r) :
    s.takeRole = s.withLine { s.line with
      state := .listener r, phase := if r = .bystander then .complete else s.line.phase } := by
  simp only [takeRole, role]
  cases r <;> rfl

/-- TABLE 7-1, by the codes in H0 and H1. -/
theorem roleAtH1_of_codes (node target code : Nibble) :
    roleAtH1 node target (Kind.ofCode code) =
      if target = node then .addressed else if target = 15 ∧ code = 3 then .gathering else .bystander := by
  have broadcast : Kind.ofCode code = some .broadcast ↔ code = 3 := by
    rw [ofCode_eq_some_iff]
    exact eq_comm
  simp only [roleAtH1, broadcast]

/-- The role that a node takes by H0 and the H1 that it reads. -/
theorem role_of_header {l : LineEngine} {b0 b1 : Byte} (h0 : l.frames.h0 = some b0) (h1 : l.frames.h1 = some b1)
    (node : Nibble) :
    roleAtH1 node l.target l.kind =
      if b1.extractLsb' 4 4 = node then .addressed
      else if b1.extractLsb' 4 4 = 15 ∧ b0.extractLsb' 0 4 = 3 then .gathering else .bystander := by
  rw [LineEngine.kind_of_h0 h0, LineEngine.target, h1]
  exact roleAtH1_of_codes _ _ _

/-- R117: H1 as an UNDECIDED node reads it. -/
theorem readH1_of_h0 {s : State} {b0 : Byte} (h0 : s.line.frames.h0 = some b0) (f : Byte) :
    s.readH1 f =
      s.withLine { s.line.heard b0 f { s.line.frames with h1 := some f } .h2 with
        state := .listener (if f.extractLsb' 4 4 = s.window.settings.node then .addressed
          else if f.extractLsb' 4 4 = 15 ∧ b0.extractLsb' 0 4 = 3 then .gathering else .bystander)
        phase := if (if f.extractLsb' 4 4 = s.window.settings.node then .addressed
          else if f.extractLsb' 4 4 = 15 ∧ b0.extractLsb' 0 4 = 3 then .gathering else Role.bystander) = .bystander
            then .complete else .h2 } := by
  have role := role_of_header (l := s.line.heard b0 f { s.line.frames with h1 := some f } .h2) h0 rfl
    s.window.settings.node
  rw [readH1, headerRead_heard s (fs := { s.line.frames with h1 := some f }) h0]
  exact takeRole_of_role role

end State

theorem exec_h0_of_differing {s : State} {h : Handle} (master : s.line.state = .master h) (phase : s.line.phase = .h0)
    {g : Byte} (differs : s.masterFrame h ≠ some g) :
    ∃ t, exec (.lostArbitration true) s = .next t ∧ exec (.h0Completes g) s = exec (.h0Completes g) t := by
  refine ⟨s.loseArbitration h, ?_, ?_⟩
  · change execLostArbitration true s = _
    simp only [execLostArbitration, master, phase, if_true]
  · change execH0Completes g s = execH0Completes g (s.loseArbitration h)
    simp only [execH0Completes, master, phase, if_neg differs]
    rfl

/-- Settles O34: the kind's code, the nodes that assemble no frame, the master's header frames, and the listener's. -/
theorem headerFramesMoveBothEndsOn : Obligations.HeaderFramesMoveBothEndsOn := by
  unfold Obligations.HeaderFramesMoveBothEndsOn
  refine ⟨fun l f k h0 => ?kind, fun s deaf f g low c frame => ?deaf,
    fun s h f master => ⟨fun phase held => ?h0, fun phase held => ?h1, fun phase held => ?h2, fun phase held => ?h3,
      fun g ne => ⟨fun phase held => ?lost, fun phase held => ?conflict1, fun phase held => ?conflict2,
        fun phase held => ?conflict3⟩⟩,
    fun s f => ⟨fun undecided phase => ?read0, fun b0 h0 => ⟨fun undecided phase => ?read1, fun listens phase => ?read2⟩⟩⟩
  case kind =>
    rw [LineEngine.kind_of_h0 h0]
    exact ofCode_eq_some_iff _ _
  case deaf =>
    obtain ⟨h0, h1, h2, h3, a, l, payload, c0, c1, v⟩ := exec_frame_of_no_frames s deaf f g low
    simp only [List.mem_cons, List.not_mem_nil, or_false] at frame
    rcases frame with rfl | rfl | rfl | rfl | rfl | rfl | rfl | rfl | rfl | rfl
    exacts [h0, h1, h2, h3, a, l, payload, c0, c1, v]
  case h0 =>
    have drives : s.masterFrame h = some f := by simp [State.masterFrame, phase, held]
    change execH0Completes f s = _
    simp only [execH0Completes, master, phase, if_pos drives, State.headerDriven_sums]
    rfl
  case h1 =>
    have drives : s.masterFrame h = some f := by simp [State.masterFrame, phase, held]
    change execH1Completes f s = _
    simp only [execH1Completes, master, phase, if_pos drives, State.headerDriven_sums]
    rfl
  case h2 =>
    have drives : s.masterFrame h = some f := by simp [State.masterFrame, phase, held]
    change execH2Completes f s = _
    simp only [execH2Completes, master, phase, if_pos drives, State.headerDriven_sums]
    rfl
  case h3 =>
    have drives : s.masterFrame h = some f := by simp [State.masterFrame, phase, held]
    change execH3Completes f s = _
    simp only [execH3Completes, master, phase, if_pos drives, State.headerDriven_sums]
    rfl
  case lost => exact exec_h0_of_differing master phase (by simpa [State.masterFrame, phase, held] using ne.symm)
  case conflict1 =>
    have drives : s.masterFrame h = some f := by simp [State.masterFrame, phase, held]
    obtain ⟨atMaster, atBystander⟩ := exec_differing_low (g := 0) master drives ne (Or.inl ⟨phase, rfl⟩)
    exact ⟨_, exec_conflict_of_drives master (by simp [phase]) (by simp [drives]) true, atMaster.trans atBystander.symm⟩
  case conflict2 =>
    have drives : s.masterFrame h = some f := by simp [State.masterFrame, phase, held]
    obtain ⟨atMaster, atBystander⟩ := exec_differing_low (g := 0) master drives ne (Or.inr (Or.inl ⟨phase, rfl⟩))
    exact ⟨_, exec_conflict_of_drives master (by simp [phase]) (by simp [drives]) true, atMaster.trans atBystander.symm⟩
  case conflict3 =>
    have drives : s.masterFrame h = some f := by simp [State.masterFrame, phase, held]
    obtain ⟨atMaster, atBystander⟩ := exec_differing_low (g := 0) master drives ne (Or.inr (Or.inr (Or.inl ⟨phase, rfl⟩)))
    exact ⟨_, exec_conflict_of_drives master (by simp [phase]) (by simp [drives]) true, atMaster.trans atBystander.symm⟩
  case read0 =>
    have read : exec (.h0Completes f) s = .next (s.readH0 f) := by
      change execH0Completes f s = _
      simp only [execH0Completes, undecided, phase]
    rw [read, State.readH0, headerRead_heard s (fs := { s.line.frames with h0 := some f }) rfl]
    rfl
  case read1 =>
    have read : exec (.h1Completes f) s = .next (s.readH1 f) := by
      change execH1Completes f s = _
      simp only [execH1Completes, undecided, phase]
    rw [read, State.readH1_of_h0 h0]
    by_cases own : f.extractLsb' 4 4 = s.window.settings.node
    · simp only [if_pos own, if_pos (Or.inl own)]
      rfl
    · by_cases broadcast : f.extractLsb' 4 4 = 15 ∧ b0.extractLsb' 0 4 = 3
      · simp only [if_neg own, if_pos broadcast, if_pos (Or.inr broadcast)]
        rfl
      · simp only [if_neg own, if_neg broadcast, if_neg (not_or.mpr ⟨own, broadcast⟩)]
        rfl
  case read2 =>
    have read : exec (.h2Completes f) s = .next (s.readH2 f) := by
      change execH2Completes f s = _
      rcases listens with e | e <;> simp only [execH2Completes, e, phase]
    rw [read, State.readH2, headerRead_heard s (fs := { s.line.frames with h2 := some f }) h0]
    rfl

end Sys2Proof.Machine

/-! SUPPORT. H3 at a listener: the header as it is held, the tests of admission and of gathering, and the statements about
them. -/

namespace Sys2Proof.Machine

/-! ### The header held -/

/-- The Line Engine holds the header b0, b1, b2, f. -/
structure LineEngine.Holds (l : LineEngine) (b0 b1 b2 f : Byte) : Prop where
  h0 : l.frames.h0 = some b0
  h1 : l.frames.h1 = some b1
  h2 : l.frames.h2 = some b2
  h3 : l.frames.h3 = some f

namespace LineEngine

theorem origin_of_h0 {l : LineEngine} {b0 : Byte} (h0 : l.frames.h0 = some b0) : l.origin = hi b0 := by
  simp [origin, h0]

theorem urgentFlag_of_h1 {l : LineEngine} {b1 : Byte} (h1 : l.frames.h1 = some b1) :
    l.urgentFlag = b1.getLsbD 3 := by simp [urgentFlag, h1]

theorem firstFlag_of_h1 {l : LineEngine} {b1 : Byte} (h1 : l.frames.h1 = some b1) : l.firstFlag = b1.getLsbD 2 := by
  simp [firstFlag, h1]

theorem lowBits_of_h1 {l : LineEngine} {b1 : Byte} (h1 : l.frames.h1 = some b1) : l.lowBits = b1.extractLsb' 0 2 := by
  simp [lowBits, h1]

theorem tag_of_h2 {l : LineEngine} {b2 : Byte} (h2 : l.frames.h2 = some b2) : l.tag = b2 := by simp [tag, h2]

theorem lengthField_of_h3 {l : LineEngine} {f : Byte} (h3 : l.frames.h3 = some f) : l.lengthField = f.toNat := by
  simp [lengthField, h3]

/-- R31: the conditions, by the codes in the header. -/
theorem malformed_iff {l : LineEngine} {b0 b1 f : Byte} (h0 : l.frames.h0 = some b0) (h1 : l.frames.h1 = some b1)
    (h3 : l.frames.h3 = some f) (node : Nibble) : l.malformed node = true ↔
      (lo b0 ≠ 1 ∧ lo b0 ≠ 2 ∧ lo b0 ≠ 3 ∧ lo b0 ≠ 4) ∨ b1.extractLsb' 0 2 ≠ 0 ∨ hi b0 = 15 ∨ hi b0 = node
        ∨ lo b0 = 3 ∨ 128 < f.toNat ∨ (lo b0 = 2 ∧ f.toNat ≠ 0) ∨ (lo b0 = 4 ∧ f.toNat = 0) := by
  have code : ∀ n : Nibble, ((Kind.ofCode n).isNone = true ↔ (n ≠ 1 ∧ n ≠ 2 ∧ n ≠ 3 ∧ n ≠ 4))
      ∧ (Kind.ofCode n = some .broadcast ↔ n = 3) ∧ (Kind.ofCode n = some .probe ↔ n = 2)
      ∧ (Kind.ofCode n = some .collect ↔ n = 4) := by decide
  obtain ⟨unnamed, broadcast, probe, collect⟩ := code (lo b0)
  simp only [malformed, kind_of_h0 h0, lowBits_of_h1 h1, origin_of_h0 h0, lengthField_of_h3 h3, Bool.or_eq_true,
    Bool.and_eq_true, bne_iff_ne, beq_iff_eq, decide_eq_true_eq, unnamed, broadcast, probe, collect, or_assoc]

/-- R32: the conditions that can apply to a broadcast. -/
theorem broadcastMalformed_iff {l : LineEngine} {b0 b1 f : Byte} (h0 : l.frames.h0 = some b0)
    (h1 : l.frames.h1 = some b1) (h3 : l.frames.h3 = some f) (node : Nibble) : l.broadcastMalformed node = true ↔
      b1.extractLsb' 0 2 ≠ 0 ∨ hi b0 = 15 ∨ hi b0 = node ∨ 128 < f.toNat := by
  simp only [broadcastMalformed, lowBits_of_h1 h1, origin_of_h0 h0, lengthField_of_h3 h3, Bool.or_eq_true, bne_iff_ne,
    beq_iff_eq, decide_eq_true_eq, or_assoc]

/-- R24, R34: the Line Engine once H3 has been read. -/
def withH3 (l : LineEngine) (b0 f : Byte) : LineEngine :=
  { l with
    frames := { l.frames with h3 := some f }, phase := .a
    s1 := if lo b0 = 1 ∨ lo b0 = 2 ∨ lo b0 = 3 then addMod255 l.s1 f else l.s1
    s2 := if lo b0 = 1 ∨ lo b0 = 2 ∨ lo b0 = 3 then addMod255 l.s2 (addMod255 l.s1 f) else l.s2 }

/-- R37: the header of a COLLECT is not covered. -/
theorem withH3_of_collect (l : LineEngine) {b0 : Byte} (collect : lo b0 = 4) (f : Byte) :
    l.withH3 b0 f = { l with frames := { l.frames with h3 := some f }, phase := .a } := by
  have uncovered : ¬ (lo b0 = 1 ∨ lo b0 = 2 ∨ lo b0 = 3) := by rw [collect]; decide
  simp only [withH3, if_neg uncovered]

theorem withH3_of_broadcast (l : LineEngine) {b0 : Byte} (broadcast : lo b0 = 3) (f : Byte) :
    l.withH3 b0 f =
      { l with
        frames := { l.frames with h3 := some f }, phase := .a
        s1 := addMod255 l.s1 f, s2 := addMod255 l.s2 (addMod255 l.s1 f) } := by
  have covered : lo b0 = 1 ∨ lo b0 = 2 ∨ lo b0 = 3 := Or.inr (Or.inr broadcast)
  simp only [withH3, if_pos covered]

end LineEngine

namespace State

theorem readH3_of_h0 {s : State} {b0 : Byte} (h0 : s.line.frames.h0 = some b0) (f : Byte) :
    s.readH3 f = s.withLine (s.line.withH3 b0 f) :=
  headerRead_of_h0 s { s.line.frames with h3 := some f } f .a b0 h0

/-- R125: the intake holds the header's fields. -/
theorem beginIntake_of_header {s : State} {b0 b1 b2 f : Byte} (header : s.line.Holds b0 b1 b2 f) :
    s.beginIntake =
      { s with
        pool := s.pool.allocate f.toNat .intake
        recv := { s.recv with
          intake := some
            { origin := hi b0, urgent := b1.getLsbD 3, tag := b2, length := f.toNat
              cells := s.pool.lowest f.toNat } } } := by
  simp only [beginIntake, LineEngine.origin_of_h0 header.h0, LineEngine.urgentFlag_of_h1 header.h1,
    LineEngine.tag_of_h2 header.h2, LineEngine.lengthField_of_h3 header.h3]

/-! ### Admission -/

theorem admission_of_malformed {s : State} (malformed : s.line.malformed s.window.settings.node = true) :
    s.admission = s.withAnswer .malformed .none := if_pos malformed

theorem admission_of_hold {s : State} (formed : ¬ s.line.malformed s.window.settings.node = true)
    (hold : s.window.settings.intakeHold = true) :
    s.admission = s.withAnswer (holdAnswer s.line.kind) .none := (if_neg formed).trans (if_pos hold)

/-- The third test on: by the kind. -/
theorem admission_of_kind {s : State} (formed : ¬ s.line.malformed s.window.settings.node = true)
    (taking : s.window.settings.intakeHold = false) :
    (s.line.kind = some .probe → s.admission = s.withAnswer .accept .probe)
    ∧ (s.line.kind = some .collect → s.admission = s.admitCollect)
    ∧ (s.line.kind = some .data → s.admission = s.admitData) := by
  refine ⟨fun kind => ?_, fun kind => ?_, fun kind => ?_⟩ <;>
    simp only [admission, if_neg formed, taking, Bool.false_eq_true, if_false, kind]

/-- R123, by the header. -/
theorem isDuplicate_iff {s : State} {b0 b1 b2 f : Byte} (header : s.line.Holds b0 b1 b2 f) :
    s.isDuplicate = true ↔
      b1.getLsbD 2 = false ∧ (s.source (hi b0)).seen = true ∧ (s.source (hi b0)).lastTag = b2 := by
  simp only [isDuplicate, LineEngine.firstFlag_of_h1 header.h1, LineEngine.origin_of_h0 header.h0,
    LineEngine.tag_of_h2 header.h2, Bool.and_eq_true, Bool.not_eq_true', beq_iff_eq, and_assoc]

/-- R124: the place test and the cell test, by the header. -/
theorem placeAndCells_iff {s : State} {b0 b1 b2 f : Byte} (header : s.line.Holds b0 b1 b2 f) :
    (s.placeTest && s.cellTest) = true ↔
      (s.occupancy < if b1.getLsbD 3 = true then 12 else 10) ∧ cellsFor f.toNat ≤ s.pool.freeCount := by
  simp only [placeTest, cellTest, Pool.grantsIntake, LineEngine.urgentFlag_of_h1 header.h1,
    LineEngine.lengthField_of_h3 header.h3, Bool.and_eq_true, decide_eq_true_eq]

end State

theorem exec_h3_of_addressed {s : State} (addressed : s.line.state = .listener .addressed) (phase : s.line.phase = .h3)
    {b0 : Byte} (h0 : s.line.frames.h0 = some b0) (f : Byte) :
    exec (.h3Completes f) s = .next (s.withLine (s.line.withH3 b0 f)).admission := by
  change execH3Completes f s = _
  simp only [execH3Completes, addressed, phase, State.readH3_of_h0 h0]

theorem exec_h3_of_gathering {s : State} (gathering : s.line.state = .listener .gathering) (phase : s.line.phase = .h3)
    {b0 : Byte} (h0 : s.line.frames.h0 = some b0) (f : Byte) :
    exec (.h3Completes f) s = .next (s.withLine (s.line.withH3 b0 f)).gather := by
  change execH3Completes f s = _
  simp only [execH3Completes, gathering, phase, State.readH3_of_h0 h0]

/-- Settles O35: the tests of TABLE 7-2 one after another. -/
theorem admissionAtH3AnswersInTheOrderOfItsTests : Obligations.AdmissionAtH3AnswersInTheOrderOfItsTests := by
  unfold Obligations.AdmissionAtH3AnswersInTheOrderOfItsTests
  intro s b0 b1 b2 f addressed phase h0 h1 h2
  have read := exec_h3_of_addressed addressed phase h0 f
  have header : (s.withLine (s.line.withH3 b0 f)).line.Holds b0 b1 b2 f := ⟨h0, h1, h2, rfl⟩
  have malformed := LineEngine.malformed_iff header.h0 header.h1 header.h3 s.window.settings.node
  have kind : (s.withLine (s.line.withH3 b0 f)).line.kind = Kind.ofCode (lo b0) := LineEngine.kind_of_h0 header.h0
  refine ⟨fun bad => read.trans (congrArg _ (State.admission_of_malformed (malformed.mpr bad))),
    fun formed hold => ⟨fun other => ?_, fun collect => ?_⟩, fun formed taking => ⟨fun probe => ?_, fun data => ?_⟩⟩
  · have answer : State.holdAnswer (Kind.ofCode (lo b0)) = .busy :=
      if_neg fun collect => other ((ofCode_eq_some_iff _ .collect).mp collect).symm
    refine read.trans (congrArg _ ((State.admission_of_hold (fun bad => formed (malformed.mp bad)) hold).trans ?_))
    rw [kind, answer]
    rfl
  · have answer : State.holdAnswer (Kind.ofCode (lo b0)) = .noOffer := if_pos ((ofCode_eq_some_iff _ .collect).mpr collect.symm)
    refine read.trans (congrArg _ ((State.admission_of_hold (fun bad => formed (malformed.mp bad)) hold).trans ?_))
    rw [kind, answer]
    rfl
  · obtain ⟨ofProbe, -, -⟩ := State.admission_of_kind (s := s.withLine (s.line.withH3 b0 f))
      (fun bad => formed (malformed.mp bad)) taking
    exact read.trans (congrArg _ (ofProbe (kind.trans ((ofCode_eq_some_iff _ _).mpr probe.symm))))
  · obtain ⟨-, -, ofData⟩ := State.admission_of_kind (s := s.withLine (s.line.withH3 b0 f))
      (fun bad => formed (malformed.mp bad)) taking
    have admitted := read.trans (congrArg _ (ofData (kind.trans ((ofCode_eq_some_iff _ _).mpr data.symm))))
    have duplicate := State.isDuplicate_iff header
    have room := State.placeAndCells_iff header
    refine ⟨fun seen => admitted.trans (congrArg _ (if_pos (duplicate.mpr seen))),
      fun new place cells => admitted.trans (congrArg _ ?_), fun new none => admitted.trans (congrArg _ ?_)⟩
    · refine (if_neg fun seen => new (duplicate.mp seen)).trans ((if_pos (room.mpr ⟨place, cells⟩)).trans ?_)
      rw [State.beginIntake_of_header header]
      rfl
    · exact (if_neg fun seen => new (duplicate.mp seen)).trans (if_neg fun fits => none (room.mp fits))

/-! ### A COLLECT -/

namespace State

theorem admitCollect_of_none {s : State} (none : s.selectOffer s.line.origin s.line.lengthField = none) :
    s.admitCollect = s.withAnswer .noOffer .none := by
  simp only [admitCollect, none]

theorem admitCollect_of_some {s : State} {i : OfferIndex}
    (some : s.selectOffer s.line.origin s.line.lengthField = some i) :
    s.admitCollect =
      (s.withOffer i { s.offerAt i with state := .serving }).withLine
        { s.line with
          state := .listener (.serving i)
          record := { s.line.record with answer := Option.some .accept, path := .none } } := by
  simp only [admitCollect, some]

theorem selectOffer_eq_none_iff (s : State) (o : Nibble) (m : Nat) :
    s.selectOffer o m = none ↔ ∀ i ∈ s.offers.order,
      ¬ ((s.offerAt i).state = .posted ∧ (s.offerAt i).addressee = o ∧ (s.offerAt i).length ≤ m)
      ∧ ¬ ((s.offerAt i).state = .posted ∧ (s.offerAt i).addressee = 15 ∧ (s.offerAt i).length ≤ m) := by
  simp only [selectOffer, Option.or_eq_none_iff, List.find?_eq_none, Bool.and_eq_true, beq_iff_eq, decide_eq_true_eq,
    and_assoc, ← forall₂_and]

/-- R162: the oldest that fits among the offers to the origin, or with none the oldest among those to all. -/
theorem selectOffer_eq_some {s : State} {o : Nibble} {m : Nat} {i : OfferIndex} (selected : s.selectOffer o m = some i) :
    i ∈ s.offers.order
      ∧ (((s.offerAt i).state = .posted ∧ (s.offerAt i).addressee = o ∧ (s.offerAt i).length ≤ m)
          ∧ (∀ j ∈ s.offers.order.takeWhile (· != i),
            ¬ ((s.offerAt j).state = .posted ∧ (s.offerAt j).addressee = o ∧ (s.offerAt j).length ≤ m))
        ∨ ((∀ j ∈ s.offers.order,
            ¬ ((s.offerAt j).state = .posted ∧ (s.offerAt j).addressee = o ∧ (s.offerAt j).length ≤ m))
          ∧ ((s.offerAt i).state = .posted ∧ (s.offerAt i).addressee = 15 ∧ (s.offerAt i).length ≤ m)
          ∧ ∀ j ∈ s.offers.order.takeWhile (· != i),
            ¬ ((s.offerAt j).state = .posted ∧ (s.offerAt j).addressee = 15 ∧ (s.offerAt j).length ≤ m))) := by
  have fits (a : Nibble) (j : OfferIndex) :
      ((s.offerAt j).state == .posted && (s.offerAt j).addressee == a && decide ((s.offerAt j).length ≤ m)) = true
        ↔ (s.offerAt j).state = .posted ∧ (s.offerAt j).addressee = a ∧ (s.offerAt j).length ≤ m := by
    simp only [Bool.and_eq_true, beq_iff_eq, decide_eq_true_eq, and_assoc]
  rcases Option.or_eq_some_iff.mp selected with own | ⟨noOwn, all⟩
  · obtain ⟨waits, fit, oldest⟩ := find_takeWhile _ _ _ own
    refine ⟨waits, Or.inl ⟨(fits o i).mp fit, fun j older fit => ?_⟩⟩
    exact absurd ((fits o j).mpr fit) (by simpa using oldest j older)
  · obtain ⟨waits, fit, oldest⟩ := find_takeWhile _ _ _ all
    refine ⟨waits, Or.inr ⟨fun j mem fit => List.find?_eq_none.mp noOwn j mem ((fits o j).mpr fit), (fits 15 i).mp fit,
      fun j older fit => ?_⟩⟩
    exact absurd ((fits 15 j).mpr fit) (by simpa using oldest j older)

end State

/-- Settles O36: a COLLECT without an offer and with one, and which offer is selected. -/
theorem collectIsServedFromTheOldestFittingOffer : Obligations.CollectIsServedFromTheOldestFittingOffer := by
  unfold Obligations.CollectIsServedFromTheOldestFittingOffer
  refine ⟨fun s b0 b1 f addressed phase h0 h1 collect low noFifteen other nonzero short taking => ?_, fun s o m =>
    ⟨s.selectOffer_eq_none_iff o m, fun i => State.selectOffer_eq_some⟩⟩
  have h0' : (s.line.withH3 b0 f).frames.h0 = some b0 := h0
  have collects : lo b0 = 4 := collect
  have formed : ¬ (s.line.withH3 b0 f).malformed s.window.settings.node = true := by
    rw [LineEngine.malformed_iff h0' h1 rfl, collects]
    rintro (⟨-, -, -, four⟩ | high | fifteen | own | three | long | ⟨two, -⟩ | ⟨-, zero⟩)
    · exact four rfl
    · exact high low
    · exact noFifteen fifteen
    · exact other own
    · cases three
    · exact not_lt.mpr short long
    · cases two
    · exact nonzero (BitVec.eq_of_toNat_eq zero)
  obtain ⟨-, ofCollect, -⟩ := State.admission_of_kind (s := s.withLine (s.line.withH3 b0 f)) formed taking
  have kind : (s.line.withH3 b0 f).kind = some .collect := by rw [LineEngine.kind_of_h0 h0', collects]; rfl
  have admitted := (exec_h3_of_addressed addressed phase h0 f).trans (congrArg _ (ofCollect kind))
  have select : (s.withLine (s.line.withH3 b0 f)).selectOffer (s.line.withH3 b0 f).origin
      (s.line.withH3 b0 f).lengthField = s.selectOffer (b0.extractLsb' 4 4) f.toNat := by
    rw [LineEngine.origin_of_h0 h0']
    rfl
  refine ⟨fun none => admitted.trans (congrArg _ ?_), fun i some => admitted.trans (congrArg _ ?_)⟩
  · rw [State.admitCollect_of_none (select.trans none), s.line.withH3_of_collect collects]
    rfl
  · rw [State.admitCollect_of_some (select.trans some), s.line.withH3_of_collect collects]
    rfl

/-! ### A broadcast -/

namespace State

theorem gather_of_malformed {s : State} (malformed : s.line.broadcastMalformed s.window.settings.node = true) :
    s.gather = s.becomeBystander := if_pos malformed

theorem gather_of_formed {s : State} (formed : ¬ s.line.broadcastMalformed s.window.settings.node = true) :
    s.gather = if s.window.settings.intakeHold || decide (10 ≤ s.occupancy) || !s.cellTest then
      s.missBroadcast.becomeBystander else s.beginIntake := if_neg formed

/-- R136: a broadcast that the node cannot take. -/
theorem misses_iff {s : State} {f : Byte} (h3 : s.line.frames.h3 = some f) (none : s.recv.intake = none) :
    (s.window.settings.intakeHold || decide (10 ≤ s.occupancy) || !s.cellTest) = true ↔
      s.window.settings.intakeHold = true ∨ 10 ≤ s.recv.records.length ∨ s.pool.freeCount < cellsFor f.toNat := by
  simp only [cellTest, Pool.grantsIntake, LineEngine.lengthField_of_h3 h3, occupancy_of_none none, Bool.or_eq_true,
    decide_eq_true_eq, Bool.not_eq_true', decide_eq_false_iff_not, not_le, or_assoc]

end State

/-- Settles O37: a malformed header, a broadcast that is missed, and one that is taken. -/
theorem gatheringNodeTakesOrMissesTheBroadcast : Obligations.GatheringNodeTakesOrMissesTheBroadcast := by
  unfold Obligations.GatheringNodeTakesOrMissesTheBroadcast
  intro s b0 b1 b2 f gathering phase h0 h1 h2 broadcast none
  have header : (s.withLine (s.line.withH3 b0 f)).line.Holds b0 b1 b2 f := ⟨h0, h1, h2, rfl⟩
  have read := exec_h3_of_gathering gathering phase h0 f
  have malformed := LineEngine.broadcastMalformed_iff header.h0 header.h1 header.h3 s.window.settings.node
  have misses := State.misses_iff (s := s.withLine (s.line.withH3 b0 f)) header.h3 none
  refine ⟨fun bad => read.trans (congrArg _ ((State.gather_of_malformed (malformed.mpr bad)).trans ?_)),
    fun formed missed => read.trans (congrArg _ ((State.gather_of_formed fun bad => formed (malformed.mp bad)).trans
      ((if_pos (misses.mpr missed)).trans ?_))),
    fun formed taken => read.trans (congrArg _ ((State.gather_of_formed fun bad => formed (malformed.mp bad)).trans
      ((if_neg fun missed => taken (misses.mp missed)).trans ?_)))⟩
  · rw [s.line.withH3_of_broadcast broadcast]
    rfl
  · rw [State.missBroadcast_of_none (s := s.withLine (s.line.withH3 b0 f)) none, s.line.withH3_of_broadcast broadcast]
    rfl
  · rw [State.beginIntake_of_header header, s.line.withH3_of_broadcast broadcast]
    rfl

end Sys2Proof.Machine

/-! SUPPORT. A and L at each end, and the end of a service, with the statements about them. -/

namespace Sys2Proof.Machine

/-! ### The shape after A and after L (TABLE 2-5) -/

namespace LineEngine

theorem payloadPhase_of_probe {l : LineEngine} (probe : l.kind = some .probe) : l.payloadPhase = .c0 :=
  (payloadPhase_of_not_collect l (by simp [probe])).trans (if_pos (Or.inl probe))

theorem payloadPhase_of_message {l : LineEngine} (message : l.kind = some .data ∨ l.kind = some .broadcast) :
    l.payloadPhase = if l.frames.h3.getD 0 = 0 then .c0 else .p 1 := by
  have notCollect : l.kind ≠ some .collect := by rcases message with e | e <;> simp [e]
  have notProbe : l.kind ≠ some .probe := by rcases message with e | e <;> simp [e]
  simp only [payloadPhase_of_not_collect l notCollect, notProbe, false_or]

/-- R93: a COLLECT's payload count is L. -/
theorem payloadPhase_of_collect {l : LineEngine} (collect : l.kind = some .collect) {n : Byte}
    (held : l.frames.l = some n) : l.payloadPhase = if n = 0 then .c0 else .p 1 := by
  have zero : n.toNat = 0 ↔ n = 0 := by
    rw [← BitVec.toNat_inj]
    rfl
  simp only [payloadPhase, payloadCount_of_collect l collect, held, Option.getD_some, zero]

end LineEngine

/-! ### Classing the answer (R25) -/

theorem classAnswer_accept (k : Kind) : classAnswer k 0xA6 = .accept := by cases k <;> decide
theorem classAnswer_busy (k : Kind) : classAnswer k 0x59 = .busy := by cases k <;> decide
theorem classAnswer_released (k : Kind) : classAnswer k 0xFF = .noAnswer := by cases k <;> decide
theorem classAnswer_malformed (k : Kind) : classAnswer k 0x6C = .malformed := by cases k <;> decide
theorem classAnswer_noOffer_of_collect : classAnswer .collect 0x93 = .noOffer := by decide
theorem classAnswer_noOffer_of_other {k : Kind} (other : k ≠ .collect) : classAnswer k 0x93 = .unclear := by
  cases k with
  | collect => exact absurd rfl other
  | data | probe | broadcast => decide

theorem classAnswer_other {a : Byte} (notAccept : a ≠ 0xA6) (notBusy : a ≠ 0x59) (notReleased : a ≠ 0xFF)
    (notMalformed : a ≠ 0x6C) (notNoOffer : a ≠ 0x93) (k : Kind) : classAnswer k a = .unclear := by
  have notNoOffer' : ¬ (a = 0x93 ∧ k = .collect) := fun both => notNoOffer both.1
  exact (if_neg notAccept).trans ((if_neg notBusy).trans ((if_neg notMalformed).trans
    ((if_neg notNoOffer').trans (if_neg notReleased))))

/-! ### A at the master -/

theorem exec_a_of_broadcast_master {s : State} {h : Handle} (master : s.line.state = .master h)
    (phase : s.line.phase = .a) (broadcast : s.line.kind = some .broadcast) (lrd : Byte) (low : Bool) :
    exec (.aCompletes lrd low) s = .next (s.toPhase s.line.payloadPhase) := by
  change execACompletes lrd low s = _
  simp only [execACompletes, master, phase, broadcast]

theorem exec_a_of_master {s : State} {h : Handle} (master : s.line.state = .master h) (phase : s.line.phase = .a)
    {k : Kind} (kind : s.line.kind = some k) (answered : k ≠ .broadcast) (lrd : Byte) (low : Bool) :
    exec (.aCompletes lrd low) s = .next (s.answerRead h k lrd low) := by
  change execACompletes lrd low s = _
  cases k with
  | broadcast => exact absurd rfl answered
  | data | probe | collect => simp only [execACompletes, master, phase, kind]

/-! R83, TABLE 5-1, by the class of the answer. -/

section
variable {s : State} {h : Handle} {k : Kind} {lrd : Byte} {low : Bool}

theorem State.answerRead_of_accept (c : classAnswer k lrd = .accept) :
    s.answerRead h k lrd low = if k = .collect then s.toPhase .l else s.toPhase s.line.payloadPhase := by
  simp only [State.answerRead, c]

theorem State.answerRead_of_busy (c : classAnswer k lrd = .busy) :
    s.answerRead h k lrd low = s.endConsumed h .busy low := by simp only [State.answerRead, c]

theorem State.answerRead_of_noAnswer (c : classAnswer k lrd = .noAnswer) :
    s.answerRead h k lrd low = s.endConsumed h .noAnswer low := by simp only [State.answerRead, c]

theorem State.answerRead_of_malformed (c : classAnswer k lrd = .malformed) :
    s.answerRead h k lrd low = s.endSettled h .refused low := by simp only [State.answerRead, c]

theorem State.answerRead_of_noOffer (c : classAnswer k lrd = .noOffer) :
    s.answerRead h k lrd low = s.endSettled h .empty low := by simp only [State.answerRead, c]

theorem State.answerRead_of_unclear (c : classAnswer k lrd = .unclear) :
    s.answerRead h k lrd low = s.endConsumed h .unclear low := by simp only [State.answerRead, c]

end

/-- Settles O38: the master of a BROADCAST goes on; that of another kind acts by the class of the answer. -/
theorem answerReadByTheMaster : Obligations.AnswerReadByTheMaster := by
  unfold Obligations.AnswerReadByTheMaster
  intro s h lrd low master phase
  refine ⟨fun broadcast => ?_, fun k kind answered => ?_⟩
  · rw [exec_a_of_broadcast_master master phase broadcast,
      LineEngine.payloadPhase_of_message (Or.inr broadcast)]
    rfl
  · have read := exec_a_of_master master phase kind answered lrd low
    refine ⟨fun accepted => ⟨fun data => ?_, fun probe => ?_, fun collect => ?_⟩, fun busy => ?_, fun released => ?_,
      fun malformed => ?_, fun noOffer => ⟨fun collect => ?_, fun other => ?_⟩,
      fun notAccept notBusy notReleased notMalformed notNoOffer => ?_⟩
    · rw [read, accepted, State.answerRead_of_accept (classAnswer_accept k), if_neg (by simp [data]),
        LineEngine.payloadPhase_of_message (Or.inl (data ▸ kind))]
      rfl
    · rw [read, accepted, State.answerRead_of_accept (classAnswer_accept k), if_neg (by simp [probe]),
        LineEngine.payloadPhase_of_probe (probe ▸ kind)]
      rfl
    · rw [read, accepted, State.answerRead_of_accept (classAnswer_accept k), if_pos collect]
      rfl
    · exact read.trans (congrArg _ (State.answerRead_of_busy (busy ▸ classAnswer_busy k)))
    · exact read.trans (congrArg _ (State.answerRead_of_noAnswer (released ▸ classAnswer_released k)))
    · exact read.trans (congrArg _ (State.answerRead_of_malformed (malformed ▸ classAnswer_malformed k)))
    · exact read.trans (congrArg _ (State.answerRead_of_noOffer (noOffer ▸ collect ▸ classAnswer_noOffer_of_collect)))
    · exact read.trans (congrArg _ (State.answerRead_of_unclear (noOffer ▸ classAnswer_noOffer_of_other other)))
    · exact read.trans (congrArg _ (State.answerRead_of_unclear
        (classAnswer_other notAccept notBusy notReleased notMalformed notNoOffer k)))

/-! ### A at the end that drove it -/

namespace State

/-- R127, R133: the target's withdrawal without and with an intake. -/
theorem targetWithdraws_of_none {s : State} (none : s.recv.intake = none) :
    s.targetWithdraws = s.withLine s.line.bystander := by
  rw [targetWithdraws, discardIntake_of_none none, becomeBystander_eq]

theorem targetWithdraws_of_some {s : State} {m : Intake} (some : s.recv.intake = some m) :
    s.targetWithdraws =
      { s with
        pool := s.pool.release m.cells, recv := { s.recv with intake := none }, line := s.line.bystander } := by
  rw [targetWithdraws, discardIntake_of_some some]
  rfl

theorem answerDriven_of_same {s : State} {a : Answer} (answer : s.line.record.answer = some a) {lrd : Byte}
    (same : lrd = a.code) :
    s.answerDriven lrd = if a = .accept then s.toPhase s.line.payloadPhase else s.becomeBystander := by
  simp only [answerDriven, answer, if_pos same]

theorem answerDriven_of_other {s : State} {a : Answer} (answer : s.line.record.answer = some a) {lrd : Byte}
    (differs : lrd ≠ a.code) : s.answerDriven lrd = s.targetWithdraws := by
  simp only [answerDriven, answer, if_neg differs]

end State

theorem exec_a_of_addressed {s : State} (addressed : s.line.state = .listener .addressed) (phase : s.line.phase = .a)
    (lrd : Byte) (low : Bool) : exec (.aCompletes lrd low) s = .next (s.answerDriven lrd) := by
  change execACompletes lrd low s = _
  simp only [execACompletes, addressed, phase]

theorem exec_a_of_gathering {s : State} (gathering : s.line.state = .listener .gathering) (phase : s.line.phase = .a)
    (lrd : Byte) (low : Bool) : exec (.aCompletes lrd low) s = .next (s.toPhase s.line.payloadPhase) := by
  change execACompletes lrd low s = _
  simp only [execACompletes, gathering, phase]

theorem exec_a_of_serving {s : State} {i : OfferIndex} (serving : s.line.state = .listener (.serving i))
    (phase : s.line.phase = .a) (lrd : Byte) (low : Bool) :
    exec (.aCompletes lrd low) s = if lrd = 0xA6 then .next (s.toPhase .l) else .next (s.serverWithdraws i) := by
  change execACompletes lrd low s = _
  simp only [execACompletes, serving, phase, State.serverFrame, Option.some.injEq, eq_comm (a := Answer.accept.code)]
  rfl

/-- Settles O39: an ADDRESSED, a GATHERING and a SERVING node, A unchanged or different. -/
theorem answerReadBackByTheTargetAndTheServer : Obligations.AnswerReadBackByTheTargetAndTheServer := by
  unfold Obligations.AnswerReadBackByTheTargetAndTheServer
  intro s lrd low phase
  refine ⟨fun a addressed notCollect answer same accepted => ?_, fun a addressed answer =>
    ⟨fun same refused => ?_, fun differs => ⟨fun none => ?_, fun m some => ?_⟩⟩, fun gathering broadcast => ?_,
    fun i serving => ⟨fun same => ?_, fun differs => ?_⟩⟩
  · rw [exec_a_of_addressed addressed phase, State.answerDriven_of_same answer same, if_pos accepted,
      payloadPhase_of_not_collect _ notCollect]
    rfl
  · rw [exec_a_of_addressed addressed phase, State.answerDriven_of_same answer same, if_neg refused]
    rfl
  · rw [exec_a_of_addressed addressed phase, State.answerDriven_of_other answer differs,
      State.targetWithdraws_of_none none]
    rfl
  · rw [exec_a_of_addressed addressed phase, State.answerDriven_of_other answer differs,
      State.targetWithdraws_of_some some]
    rfl
  · rw [exec_a_of_gathering gathering phase, payloadPhase_of_not_collect _ (by simp [broadcast])]
    rfl
  · rw [exec_a_of_serving serving phase, if_pos same]
    rfl
  · rw [exec_a_of_serving serving phase, if_neg differs, serverWithdraws_eq]

/-! ### The end of a service -/

theorem exec_v_of_serving {s : State} {i : OfferIndex} (serving : s.line.state = .listener (.serving i))
    (phase : s.line.phase = .v) (lmd lrd : Byte) (low : Bool) :
    exec (.vCompletes lmd lrd low) s = .next (s.serverVerdict i lmd) := by
  change execVCompletes lmd lrd low s = _
  simp only [execVCompletes, serving, phase]

/-- Settles O40: the offer POSTED again, FREE or TAKEN, and V at the server. -/
theorem serviceEndsWithTheOfferReturnedOrTaken : Obligations.ServiceEndsWithTheOfferReturnedOrTaken := by
  unfold Obligations.ServiceEndsWithTheOfferReturnedOrTaken
  refine ⟨fun s i o => ⟨fun going => State.returnOffer_of_not_pending going,
    fun pending => State.returnOffer_of_pending pending, rfl⟩,
    fun s i lmd lrd low serving phase => ⟨fun good => ?_, fun other => ?_⟩⟩
  · rw [exec_v_of_serving serving phase, State.serverVerdict, if_pos (show lmd = Verdict.good.code from good)]
    rfl
  · rw [exec_v_of_serving serving phase, State.serverVerdict, if_neg (show lmd ≠ Verdict.good.code from other),
      serverWithdraws_eq]

/-! ### L -/

theorem exec_l_of_master {s : State} {h : Handle} (master : s.line.state = .master h) (phase : s.line.phase = .l)
    (lrd : Byte) (low : Bool) :
    exec (.lCompletes lrd low) s =
      if lrd.toNat ≤ (s.entry h).length then .next (s.takeL lrd) else .next (s.endConsumed h .unclear low) := by
  change execLCompletes lrd low s = _
  simp only [execLCompletes, master, phase]

theorem exec_l_of_serving {s : State} {i : OfferIndex} (serving : s.line.state = .listener (.serving i))
    (phase : s.line.phase = .l) (lrd : Byte) (low : Bool) :
    exec (.lCompletes lrd low) s =
      if lrd = byte (s.offerAt i).length then .next (s.takeL lrd)
      else .next (s.serverWithdrawsAt i (byte (s.offerAt i).length)) := by
  change execLCompletes lrd low s = _
  simp only [execLCompletes, serving, phase, State.serverFrame, Option.some.injEq,
    eq_comm (a := byte (s.offerAt i).length)]

theorem State.takeL_of_collect {s : State} (collect : s.line.kind = some .collect) (lrd : Byte) :
    s.takeL lrd = s.withLine { s.line with
      frames := { s.line.frames with l := some lrd }
      s1 := addMod255 s.line.s1 lrd, s2 := addMod255 s.line.s2 (addMod255 s.line.s1 lrd)
      phase := if lrd = 0 then .c0 else .p 1 } := by
  have next := LineEngine.payloadPhase_of_collect (n := lrd)
    (l := ({ s.line with frames := { s.line.frames with l := some lrd } } : LineEngine).addFrame lrd) collect rfl
  simp only [State.takeL, next]
  rfl

/-- Settles O41: L within and over the maximum, and L read back unchanged or not. -/
theorem offerLengthIsComparedWithTheMaximum : Obligations.OfferLengthIsComparedWithTheMaximum := by
  unfold Obligations.OfferLengthIsComparedWithTheMaximum
  intro s lrd low phase collect
  refine ⟨fun h master => ⟨fun fits => ?_, fun long => ?_⟩, fun i serving => ⟨fun same => ?_, fun differs => ?_⟩⟩
  · rw [exec_l_of_master master phase, if_pos fits, State.takeL_of_collect collect]
    rfl
  · rw [exec_l_of_master master phase, if_neg (not_le.mpr long)]
    rfl
  · rw [exec_l_of_serving serving phase, if_pos (c := lrd = byte _) same, State.takeL_of_collect collect]
    rfl
  · rw [exec_l_of_serving serving phase, if_neg (c := lrd = byte _) differs, serverWithdrawsAt_eq]
    rfl

end Sys2Proof.Machine

/-! SUPPORT. The payload and C0 at each end, with the statement about them. -/

namespace Sys2Proof.Machine

/-! ### The payload -/

namespace LineEngine

/-- R87, R93: the payload count is H3 of a DATA or a BROADCAST and L of a COLLECT. -/
theorem payloadCount_of_kind {l : LineEngine} {n : Nat}
    (count : (l.kind = some .data ∨ l.kind = some .broadcast) ∧ n = (l.frames.h3.getD 0).toNat
      ∨ l.kind = some .collect ∧ n = (l.frames.l.getD 0).toNat) : l.payloadCount = n := by
  rcases count with ⟨message, rfl⟩ | ⟨collect, rfl⟩
  · exact payloadCount_of_message l message
  · exact payloadCount_of_collect l collect

/-- R34: the Line Engine once payload frame Pk of n has been added. -/
def withPayload (l : LineEngine) (f : Byte) (k n : Nat) : LineEngine :=
  { l with
    s1 := addMod255 l.s1 f, s2 := addMod255 l.s2 (addMod255 l.s1 f)
    phase := if k < n then .p (k + 1) else .c0 }

end LineEngine

namespace State

theorem advance_afterPayload {s : State} (u : State) (line : u.line = s.line) (f : Byte) (k : Nat) {n : Nat}
    (count : s.line.payloadCount = n) :
    u.advance (some f) (s.line.afterPayload k) = u.withLine (s.line.withPayload f k n) := by
  rw [LineEngine.afterPayload, count, ← line]
  rfl

theorem writeIntake_of_some {s : State} {m : Intake} (some : s.recv.intake = some m) (k : Nat) (f : Byte) :
    s.writeIntake k f = s.withPool (s.pool.writeByte m.cells (k - 1) f) := by simp [writeIntake, some]

theorem masterFrame_of_payload {s : State} {h : Handle} {k : Nat} (phase : s.line.phase = .p k)
    (other : s.line.kind ≠ some .collect) :
    s.masterFrame h = some (s.pool.readByte (s.entry h).cells (k - 1)) := by simp [masterFrame, phase, other]

theorem masterFrame_of_c0 {s : State} {h : Handle} (phase : s.line.phase = .c0)
    (other : s.line.kind ≠ some .collect) : s.masterFrame h = some s.line.s2 := by simp [masterFrame, phase, other]

theorem masterFrame_of_c1 {s : State} {h : Handle} (phase : s.line.phase = .c1)
    (other : s.line.kind ≠ some .collect) : s.masterFrame h = some s.line.s1 := by simp [masterFrame, phase, other]

end State

theorem exec_p_of_collector {s : State} {h : Handle} {k : Nat} (master : s.line.state = .master h)
    (phase : s.line.phase = .p k) (collect : s.line.kind = some .collect) (lmd lrd : Byte) :
    exec (.payloadFrameCompletes lmd lrd) s =
      .next ((s.writeReply h k lrd).advance (some lrd) (s.line.afterPayload k)) := by
  change execPayloadFrameCompletes lmd lrd s = _
  simp only [execPayloadFrameCompletes, master, phase, collect, if_true]

theorem exec_p_of_master {s : State} {h : Handle} {k : Nat} (master : s.line.state = .master h)
    (phase : s.line.phase = .p k) (other : s.line.kind ≠ some .collect) {lmd : Byte}
    (same : lmd = s.pool.readByte (s.entry h).cells (k - 1)) (lrd : Byte) :
    exec (.payloadFrameCompletes lmd lrd) s = .next (s.advance (some lmd) (s.line.afterPayload k)) := by
  have drives : s.masterFrame h = some lmd := same ▸ State.masterFrame_of_payload phase other
  change execPayloadFrameCompletes lmd lrd s = _
  simp only [execPayloadFrameCompletes, master, phase, if_neg other, if_pos drives]

theorem exec_p_of_addressed {s : State} {k : Nat} (addressed : s.line.state = .listener .addressed)
    (phase : s.line.phase = .p k) (lmd lrd : Byte) :
    exec (.payloadFrameCompletes lmd lrd) s =
      .next ((s.storePayload k lmd).advance (some lmd) (s.line.afterPayload k)) := by
  change execPayloadFrameCompletes lmd lrd s = _
  simp only [execPayloadFrameCompletes, addressed, phase]

theorem exec_p_of_gathering {s : State} {k : Nat} (gathering : s.line.state = .listener .gathering)
    (phase : s.line.phase = .p k) (lmd lrd : Byte) :
    exec (.payloadFrameCompletes lmd lrd) s =
      .next ((s.writeIntake k lmd).advance (some lmd) (s.line.afterPayload k)) := by
  change execPayloadFrameCompletes lmd lrd s = _
  simp only [execPayloadFrameCompletes, gathering, phase]

theorem exec_p_of_serving {s : State} {i : OfferIndex} {k : Nat} (serving : s.line.state = .listener (.serving i))
    (phase : s.line.phase = .p k) (lmd lrd : Byte) :
    exec (.payloadFrameCompletes lmd lrd) s =
      if lrd = s.pool.readByte (s.offerAt i).cells (k - 1) then
        .next (s.advance (some lrd) (s.line.afterPayload k))
      else .next (s.serverWithdrawsAt i (s.pool.readByte (s.offerAt i).cells (k - 1))) := by
  change execPayloadFrameCompletes lmd lrd s = _
  simp only [execPayloadFrameCompletes, serving, phase, State.serverFrame, Option.some.injEq,
    eq_comm (a := s.pool.readByte (s.offerAt i).cells (k - 1))]

/-! ### C0 -/

theorem exec_c0_of_collector {s : State} {h : Handle} (master : s.line.state = .master h)
    (phase : s.line.phase = .c0) (collect : s.line.kind = some .collect) (lmd lrd : Byte) :
    exec (.c0Completes lmd lrd) s = .next (s.holdC0 lrd) := by
  change execC0Completes lmd lrd s = _
  simp only [execC0Completes, master, phase, collect, if_true]

theorem exec_c0_of_master {s : State} {h : Handle} (master : s.line.state = .master h)
    (phase : s.line.phase = .c0) (other : s.line.kind ≠ some .collect) {lmd : Byte} (same : lmd = s.line.s2)
    (lrd : Byte) : exec (.c0Completes lmd lrd) s = .next (s.holdC0 lmd) := by
  have drives : s.masterFrame h = some lmd := same ▸ State.masterFrame_of_c0 phase other
  change execC0Completes lmd lrd s = _
  simp only [execC0Completes, master, phase, if_neg other, if_pos drives]

theorem exec_c0_of_taker {s : State} (taker : s.line.state = .listener .addressed ∨ s.line.state = .listener .gathering)
    (phase : s.line.phase = .c0) (lmd lrd : Byte) : exec (.c0Completes lmd lrd) s = .next (s.holdC0 lmd) := by
  change execC0Completes lmd lrd s = _
  rcases taker with e | e <;> simp only [execC0Completes, e, phase]

theorem exec_c0_of_serving {s : State} {i : OfferIndex} (serving : s.line.state = .listener (.serving i))
    (phase : s.line.phase = .c0) (lmd lrd : Byte) :
    exec (.c0Completes lmd lrd) s =
      if lrd = s.line.s2 then .next (s.holdC0 lrd) else .next (s.serverWithdraws i) := by
  change execC0Completes lmd lrd s = _
  simp only [execC0Completes, serving, phase, State.serverFrame, Option.some.injEq, eq_comm (a := s.line.s2)]

/-- Settles O42: Pk and C0 at a collector, a master, an ADDRESSED, a GATHERING and a SERVING node. -/
theorem payloadAndFirstCheckFrameAtEachEnd : Obligations.PayloadAndFirstCheckFrameAtEachEnd := by
  unfold Obligations.PayloadAndFirstCheckFrameAtEachEnd
  refine ⟨fun s k n lmd lrd phase kind => ?_, fun s lmd lrd phase => ?_⟩
  · have count := LineEngine.payloadCount_of_kind kind
    refine ⟨fun h master => ⟨fun collect => ?_, fun other same => ?_⟩,
      fun addressed => ⟨fun m path some => ?_, fun path => ?_⟩, fun gathering m some => ?_,
      fun i serving => ⟨fun same => ?_, fun differs => ?_⟩⟩
    · rw [exec_p_of_collector master phase collect,
        State.advance_afterPayload (s := s) (s.writeReply h k lrd) rfl lrd k count]
      rfl
    · rw [exec_p_of_master master phase other same, State.advance_afterPayload (s := s) s rfl lmd k count]
      rfl
    · rw [exec_p_of_addressed addressed phase, State.storePayload, if_pos path, State.writeIntake_of_some some,
        State.advance_afterPayload (s := s) (s.withPool (s.pool.writeByte m.cells (k - 1) lmd)) rfl lmd k count]
      rfl
    · rw [exec_p_of_addressed addressed phase, State.storePayload, if_neg path,
        State.advance_afterPayload (s := s) s rfl lmd k count]
      rfl
    · rw [exec_p_of_gathering gathering phase, State.writeIntake_of_some some,
        State.advance_afterPayload (s := s) (s.withPool (s.pool.writeByte m.cells (k - 1) lmd)) rfl lmd k count]
      rfl
    · rw [exec_p_of_serving serving phase, if_pos same, State.advance_afterPayload (s := s) s rfl lrd k count]
      rfl
    · rw [exec_p_of_serving serving phase, if_neg differs, serverWithdrawsAt_eq]
      rfl
  · refine ⟨fun h master => ⟨fun collect => ?_, fun other same => ?_⟩, fun taker => ?_,
      fun i serving => ⟨fun same => ?_, fun differs => ?_⟩⟩
    · rw [exec_c0_of_collector master phase collect]
      rfl
    · rw [exec_c0_of_master master phase other same]
      rfl
    · rw [exec_c0_of_taker taker phase]
      rfl
    · rw [exec_c0_of_serving serving phase, if_pos same]
      rfl
    · rw [exec_c0_of_serving serving phase, if_neg differs, serverWithdraws_eq]

end Sys2Proof.Machine

/-! SUPPORT. C1 and V at each end, with the statements about them. -/

namespace Sys2Proof.Machine

/-! ### What a verdict makes of the state -/

namespace State

theorem commit_eq (s : State) (r : ReceiveRecord) :
    s.commit r =
      { s with recv := { s.recv with
          records := s.recv.records ++ [{ r with arrival := s.recv.arrivalCounter }]
          arrivalCounter := s.recv.arrivalCounter + 1
          drain := if s.recv.records = [] then some 0 else s.recv.drain } } := by
  simp only [commit, List.isEmpty_iff]
  rfl

theorem noteSource_of_lt (s : State) {o : Nibble} (named : o.toNat < 15) (tag : Byte) :
    s.noteSource o tag =
      { s with recv := { s.recv with
          sources := s.recv.sources.set o.toNat { s.recv.sources[o.toNat] with seen := true, lastTag := tag } } } := by
  simp only [noteSource, withSource, source, dif_pos named]
  rfl

theorem countDuplicate_of_lt (s : State) {o : Nibble} (named : o.toNat < 15) :
    s.countDuplicate o =
      { s with recv := { s.recv with
          sources := s.recv.sources.set o.toNat
            { s.recv.sources[o.toNat] with duplicates := countUp s.recv.sources[o.toNat].duplicates } } } := by
  simp only [countDuplicate, withSource, source, dif_pos named]
  rfl

/-- R96, R47: the state in which the REPLY has been committed. -/
theorem replied_eq (s : State) (h : Handle) :
    s.replied h =
      { s with
        pool := s.pool.setOwner ((s.entry h).cells.take (cellsFor s.line.payloadCount)) .record
        queue := { s.queue with
          entries := s.queue.entries.set h
            { s.entry h with cells := (s.entry h).cells.drop (cellsFor s.line.payloadCount) } }
        recv := { s.recv with
          records := s.recv.records ++
            [{ arrival := s.recv.arrivalCounter, origin := (s.entry h).dest, kind := .reply, urgent := false, tag := 0
               length := s.line.payloadCount, postNumber := (s.entry h).postNumber
               cells := (s.entry h).cells.take (cellsFor s.line.payloadCount) }]
          arrivalCounter := s.recv.arrivalCounter + 1
          drain := if s.recv.records = [] then some 0 else s.recv.drain } } := by
  rw [replied, commit_eq]
  rfl

/-! ### C1 -/

theorem targetVerdict_of_passes {s : State} {c : Byte} (passes : s.line.checkPasses c = true) :
    s.targetVerdict c = s.decideVerdict (if s.line.record.path = .duplicate then .goodDuplicate else .good) :=
  if_pos passes

theorem targetVerdict_of_fails {s : State} {c : Byte} (fails : ¬ s.line.checkPasses c = true) :
    s.targetVerdict c = s.discardIntake.decideVerdict .check := if_neg fails

end State

theorem exec_c1_of_collector {s : State} {h : Handle} (master : s.line.state = .master h)
    (phase : s.line.phase = .c1) (collect : s.line.kind = some .collect) (lmd lrd : Byte) (low : Bool) :
    exec (.c1Completes lmd lrd low) s =
      .next (s.decideVerdict (if s.line.checkPasses lrd then .good else .check)) := by
  change execC1Completes lmd lrd low s = _
  simp only [execC1Completes, master, phase, collect, if_true]

theorem exec_c1_of_master {s : State} {h : Handle} (master : s.line.state = .master h)
    (phase : s.line.phase = .c1) (other : s.line.kind ≠ some .collect) {lmd : Byte} (same : lmd = s.line.s1)
    (lrd : Byte) (low : Bool) :
    exec (.c1Completes lmd lrd low) s =
      if s.line.kind = some .broadcast then .next (s.endSettled h .sent low) else .next (s.toPhase .v) := by
  have drives : s.masterFrame h = some lmd := same ▸ State.masterFrame_of_c1 phase other
  change execC1Completes lmd lrd low s = _
  simp only [execC1Completes, master, phase, if_neg other, if_pos drives]

theorem exec_c1_of_addressed {s : State} (addressed : s.line.state = .listener .addressed) (phase : s.line.phase = .c1)
    (lmd lrd : Byte) (low : Bool) : exec (.c1Completes lmd lrd low) s = .next (s.targetVerdict lmd) := by
  change execC1Completes lmd lrd low s = _
  simp only [execC1Completes, addressed, phase]

theorem exec_c1_of_gathering {s : State} (gathering : s.line.state = .listener .gathering) (phase : s.line.phase = .c1)
    (lmd lrd : Byte) (low : Bool) : exec (.c1Completes lmd lrd low) s = .next (s.gatherVerdict lmd) := by
  change execC1Completes lmd lrd low s = _
  simp only [execC1Completes, gathering, phase]

theorem exec_c1_of_serving {s : State} {i : OfferIndex} (serving : s.line.state = .listener (.serving i))
    (phase : s.line.phase = .c1) (lmd lrd : Byte) (low : Bool) :
    exec (.c1Completes lmd lrd low) s =
      if lrd = s.line.s1 then .next (s.toPhase .v) else .next (s.serverWithdraws i) := by
  change execC1Completes lmd lrd low s = _
  simp only [execC1Completes, serving, phase, State.serverFrame, Option.some.injEq, eq_comm (a := s.line.s1)]

/-- Settles O43: C1 at a master, a collector, an ADDRESSED, a GATHERING and a SERVING node. -/
theorem secondCheckFrameDecidesTheVerdict : Obligations.SecondCheckFrameDecidesTheVerdict := by
  unfold Obligations.SecondCheckFrameDecidesTheVerdict
  intro s lmd lrd low phase
  have passes (c : Byte) := checkPasses_iff s.line c
  refine ⟨fun h master => ⟨fun broadcast same => ?_, fun notBroadcast notCollect same => ?_,
      fun collect => ⟨fun c0 c1 => ?_, fun fails => ?_⟩⟩,
    fun addressed => ⟨fun c0 c1 => ?_, fun fails => ⟨fun none => ?_, fun m some => ?_⟩⟩,
    fun gathering m some => ⟨fun c0 c1 => ?_, fun fails => ?_⟩,
    fun i serving => ⟨fun same => ?_, fun differs => ?_⟩⟩
  · rw [exec_c1_of_master master phase (by simp [broadcast]) same, if_pos broadcast]
    rfl
  · rw [exec_c1_of_master master phase notCollect same, if_neg notBroadcast]
    rfl
  · rw [exec_c1_of_collector master phase collect, if_pos ((passes lrd).mpr ⟨c0, c1⟩)]
    rfl
  · rw [exec_c1_of_collector master phase collect, if_neg (mt (passes lrd).mp fails)]
    rfl
  · rw [exec_c1_of_addressed addressed phase, State.targetVerdict_of_passes ((passes lmd).mpr ⟨c0, c1⟩)]
    rfl
  · rw [exec_c1_of_addressed addressed phase, State.targetVerdict_of_fails (mt (passes lmd).mp fails),
      State.discardIntake_of_none none]
    rfl
  · rw [exec_c1_of_addressed addressed phase, State.targetVerdict_of_fails (mt (passes lmd).mp fails),
      State.discardIntake_of_some some]
    rfl
  · rw [exec_c1_of_gathering gathering phase, State.gatherVerdict, if_pos ((passes lmd).mpr ⟨c0, c1⟩),
      State.commitIntake_of_some some, State.commit_eq]
    rfl
  · rw [exec_c1_of_gathering gathering phase, State.gatherVerdict, if_neg (mt (passes lmd).mp fails),
      State.missBroadcast_of_some some]
    rfl
  · rw [exec_c1_of_serving serving phase, if_pos same]
    rfl
  · rw [exec_c1_of_serving serving phase, if_neg differs, serverWithdraws_eq]

/-! ### V at the master and the collector -/

theorem exec_v_of_master {s : State} {h : Handle} (master : s.line.state = .master h) (phase : s.line.phase = .v)
    (other : s.line.kind ≠ some .collect) (lmd lrd : Byte) (low : Bool) :
    exec (.vCompletes lmd lrd low) s = .next (s.verdictRead h lrd low) := by
  change execVCompletes lmd lrd low s = _
  simp only [execVCompletes, master, phase, if_neg other]

theorem exec_v_of_collector {s : State} {h : Handle} (master : s.line.state = .master h) (phase : s.line.phase = .v)
    (collect : s.line.kind = some .collect) {v : Verdict} (verdict : s.line.record.verdict = some v) (lrd : Byte)
    (low : Bool) : exec (.vCompletes v.code lrd low) s = .next (s.collectorEnds h low) := by
  have drives : s.masterFrame h = some v.code := by
    simp only [State.masterFrame, phase, collect, if_true, verdict, Option.map_some]
  change execVCompletes v.code lrd low s = _
  simp only [execVCompletes, master, phase, if_pos collect, if_pos drives]

/-- R26: a frame that is no verdict is UNCLEAR. -/
theorem classVerdict_other {a : Byte} (notGood : a ≠ 0xC5) (notDuplicate : a ≠ 0xCA) (notCheck : a ≠ 0x35) :
    classVerdict a = none := (if_neg notGood).trans ((if_neg notDuplicate).trans (if_neg notCheck))

/-- Settles O44: the classes of V at the master, and the collector's own verdict read back. -/
theorem verdictAtTheMasterAndTheCollector : Obligations.VerdictAtTheMasterAndTheCollector := by
  unfold Obligations.VerdictAtTheMasterAndTheCollector
  refine ⟨fun s h lmd lrd low master phase other => ?_, fun s h lrd low master phase collect => ?_⟩
  · have read := exec_v_of_master master phase other lmd lrd low
    refine ⟨fun good => ?_, fun duplicate => ?_, fun check => ?_, fun notGood notDuplicate notCheck => ?_⟩
    · subst good
      exact read
    · subst duplicate
      exact read
    · subst check
      exact read
    · rw [read, State.verdictRead, classVerdict_other notGood notDuplicate notCheck]
      rfl
  · refine ⟨fun good => ?_, fun check => ?_⟩
    · refine (exec_v_of_collector master phase collect good lrd low).trans ?_
      rw [State.collectorEnds, if_pos good, State.collected_eq, State.replied_eq,
        payloadCount_of_collect s.line collect]
      rfl
    · refine (exec_v_of_collector master phase collect check lrd low).trans ?_
      rw [State.collectorEnds, if_neg (by simp [check])]
      rfl

/-! ### V at the target -/

theorem exec_v_of_addressed {s : State} (addressed : s.line.state = .listener .addressed) (phase : s.line.phase = .v)
    (lmd lrd : Byte) (low : Bool) : exec (.vCompletes lmd lrd low) s = .next (s.verdictDriven lrd) := by
  change execVCompletes lmd lrd low s = _
  simp only [execVCompletes, addressed, phase]

namespace State

theorem verdictDriven_of_check {s : State} (check : s.line.record.verdict = some .check) (lrd : Byte) :
    s.verdictDriven lrd = s.becomeBystander := by simp only [verdictDriven, check]

theorem verdictDriven_of_verdict {s : State} {v : Verdict} (verdict : s.line.record.verdict = some v)
    (stands : v ≠ .check) (lrd : Byte) :
    s.verdictDriven lrd = if lrd = v.code then s.verdictStands.toPhase .complete else s.targetWithdraws := by
  cases v with
  | check => exact absurd rfl stands
  | good | goodDuplicate => simp only [verdictDriven, verdict]

theorem verdictStands_of_new {s : State} (path : s.line.record.path = .new) :
    s.verdictStands = (s.commitIntake .data).noteSource s.line.origin s.line.tag := by
  simp only [verdictStands, path]

theorem verdictStands_of_duplicate {s : State} (path : s.line.record.path = .duplicate) :
    s.verdictStands = s.countDuplicate s.line.origin := by simp only [verdictStands, path]

theorem verdictStands_of_probe {s : State} (path : s.line.record.path = .probe) : s.verdictStands = s := by
  simp only [verdictStands, path]

end State

/-- Settles O45: the verdict unchanged on each path, CHECK, and a verdict that came back different. -/
theorem targetCommitsWhenItsVerdictStands : Obligations.TargetCommitsWhenItsVerdictStands := by
  unfold Obligations.TargetCommitsWhenItsVerdictStands
  intro s lmd lrd low addressed phase
  have read := exec_v_of_addressed addressed phase lmd lrd low
  refine ⟨fun good same path m some named => ?_, fun duplicate same path named => ?_, fun good same path => ?_,
    fun check => ?_, fun v verdict stands differs => ⟨fun none => ?_, fun m some => ?_⟩⟩
  · rw [read, State.verdictDriven_of_verdict good (by decide), if_pos (show lrd = Verdict.good.code from same),
      State.verdictStands_of_new path, State.noteSource_of_lt (o := s.line.origin) _ named, State.commitIntake_of_some some, State.commit_eq]
    rfl
  · rw [read, State.verdictDriven_of_verdict duplicate (by decide),
      if_pos (show lrd = Verdict.goodDuplicate.code from same), State.verdictStands_of_duplicate path,
      State.countDuplicate_of_lt (o := s.line.origin) _ named]
    rfl
  · rw [read, State.verdictDriven_of_verdict good (by decide), if_pos (show lrd = Verdict.good.code from same),
      State.verdictStands_of_probe path]
    rfl
  · rw [read, State.verdictDriven_of_check check]
    rfl
  · rw [read, State.verdictDriven_of_verdict verdict stands, if_neg differs, State.targetWithdraws_of_none none]
    rfl
  · rw [read, State.verdictDriven_of_verdict verdict stands, if_neg differs, State.targetWithdraws_of_some some]
    rfl

end Sys2Proof.Machine

/-! SUPPORT. The cells an allocation takes and the byte of a chain, the cells of every owner and their number, with the
statements about them. -/

namespace Sys2Proof.Machine

/-! ### An allocation -/

/-- The first part of a rising list holds what is below any of its members. -/
theorem mem_take_of_lt {l : List CellNumber} (rising : l.Pairwise (· < ·)) {n : Nat} {c d : CellNumber}
    (taken : c ∈ l.take n) (member : d ∈ l) (below : d < c) : d ∈ l.take n := by
  rw [← List.take_append_drop n l] at member rising
  rcases List.mem_append.mp member with first | later
  · exact first
  · exact absurd (List.pairwise_append.mp rising |>.2.2 c taken d later) (lt_asymm below)

namespace Pool

theorem freeCells_rising (p : Pool) : p.freeCells.Pairwise (· < ·) :=
  (List.sortedLT_finRange 64).pairwise.filter _

theorem lowest_rising (p : Pool) (n : Nat) : (p.lowest n).Pairwise (· < ·) :=
  p.freeCells_rising.sublist (List.take_sublist _ _)

theorem lowest_length (p : Pool) (n : Nat) : (p.lowest n).length = min (cellsFor n) p.freeCount :=
  List.length_take

/-- R39: an allocation takes no cell above a free one that it leaves. -/
theorem mem_lowest_of_lt (p : Pool) {n : Nat} {c d : CellNumber} (taken : c ∈ p.lowest n) (below : d < c)
    (free : p.owners[d] = .free) : d ∈ p.lowest n :=
  mem_take_of_lt p.freeCells_rising taken ((p.mem_freeCells d).mpr free) below

/-- R43: the cells taken are zero-filled. -/
theorem read_allocate (p : Pool) (n : Nat) (o : Owner) (c : CellNumber) {k : Nat} (within : k < 32) :
    (p.allocate n o).mem.read (32 * c.val + k) =
      if c ∈ p.lowest n then 0 else p.mem.read (32 * c.val + k) := by
  have cell : (32 * c.val + k) / 32 = c.val := by omega
  have taken : (∃ d ∈ p.lowest n, (32 * c.val + k) / 32 = d.val) ↔ c ∈ p.lowest n := by
    rw [cell]
    exact ⟨fun ⟨d, mem, same⟩ => Fin.ext same ▸ mem, fun mem => ⟨c, mem, rfl⟩⟩
  exact (Memory.read_foldl_zeroCell (p.lowest n) p.mem (32 * c.val + k)).trans (if_congr taken rfl rfl)

end Pool

/-- Settles O46: TABLE 3-1, an allocation, and a byte of a chain written and read. -/
theorem allocatedCellsAndChainBytes : Obligations.AllocatedCellsAndChainBytes := by
  unfold Obligations.AllocatedCellsAndChainBytes
  refine ⟨cellsFor_table, fun p n o => ?_, fun p cells k v c place => ?_⟩
  · exact ⟨p.lowest_rising n, p.lowest_length n,
      fun c taken => ⟨p.free_of_mem_lowest n taken, fun d below free => p.mem_lowest_of_lt taken below free⟩,
      p.owners_allocate n o, fun c k within => p.read_allocate n o c within⟩
  · refine ⟨readByte_of_cell p place, p.writeByte_owners cells k v, fun wf => ?_⟩
    have reads (b : Nat) := p.read_writeByte v b place wf
    exact ⟨(reads _).trans (if_pos rfl), fun b elsewhere => (reads b).trans (if_neg elsewhere)⟩

/-! ### The cells of every owner (R40) -/

/-- Every owner that a cell can have. -/
def Owner.all : List Owner :=
  .free :: ((List.finRange 8).map .send ++ (List.finRange 4).map .offer ++ [.intake, .record])

theorem Owner.mem_all (o : Owner) : o ∈ Owner.all := by cases o <;> simp [all]

theorem Owner.all_nodup : Owner.all.Nodup := by decide

namespace State

/-- The cells in the chains of an owner; those of no chain are the free ones. -/
def cellsOf (s : State) : Owner → List CellNumber
  | .free => s.pool.freeCells
  | .send h => (s.entry h).cells
  | .offer i => (s.offerAt i).cells
  | .intake => s.recv.intake.elim [] Intake.cells
  | .record => s.recv.records.flatMap ReceiveRecord.cells

theorem mem_cellsOf {s : State} (kept : s.PoolKept) (o : Owner) (c : CellNumber) :
    c ∈ s.cellsOf o ↔ s.pool.owners[c] = o := by
  cases o with
  | free => exact s.pool.mem_freeCells c
  | send h => exact kept.send h c
  | offer i => exact kept.offer i c
  | intake =>
    rw [← kept.intake c]
    cases pending : s.recv.intake <;> simp [cellsOf, pending]
  | record =>
    rw [← kept.record c]
    simp [cellsOf]

theorem cellsOf_nodup {s : State} (offers : s.OffersKept) (kept : s.PoolKept) (o : Owner) : (s.cellsOf o).Nodup := by
  cases o with
  | free => exact s.pool.freeCells_nodup
  | send h =>
    by_cases finished : (s.entry h).state = .finished
    · simp [cellsOf, kept.finishedEmpty h finished]
    · exact (kept.sendFits h finished).1
  | offer i =>
    by_cases taken : (s.offerAt i).state = .taken
    · simp [cellsOf, offers.taken i taken]
    · exact (kept.offerFits i taken).1
  | intake =>
    cases pending : s.recv.intake with
    | none => simp [cellsOf, pending]
    | some m => simpa [cellsOf, pending] using (kept.intakeFits m pending).1
  | record =>
    exact List.nodup_flatMap.mpr
      ⟨fun r mem => (kept.recordFits r mem).1, kept.recordsApart.imp fun apart c here there => apart c here there⟩

/-- R40: the cells of all owners are the 64 cells, each once. -/
theorem cellsOf_all_perm {s : State} (offers : s.OffersKept) (kept : s.PoolKept) :
    (Owner.all.flatMap s.cellsOf).Perm (List.finRange 64) := by
  have apart : (Owner.all.flatMap s.cellsOf).Nodup :=
    List.nodup_flatMap.mpr ⟨fun o _ => cellsOf_nodup offers kept o, Owner.all_nodup.imp fun differ c here there =>
      differ (((mem_cellsOf kept _ c).mp here).symm.trans ((mem_cellsOf kept _ c).mp there))⟩
  refine (List.perm_ext_iff_of_nodup apart (List.nodup_finRange 64)).mpr fun c => ?_
  refine iff_of_true (List.mem_flatMap.mpr ⟨s.pool.owners[c], Owner.mem_all _, ?_⟩) (List.mem_finRange c)
  exact (mem_cellsOf kept _ c).mpr rfl

end State

/-- Settles O47: the lengths of the chains of all owners add up to the number of cells. -/
theorem everyCellIsFreeOrHeldOnce : Obligations.EveryCellIsFreeOrHeldOnce := by
  unfold Obligations.EveryCellIsFreeOrHeldOnce
  intro s offers kept
  have total := (State.cellsOf_all_perm offers kept).length_eq
  rw [List.length_flatMap, List.length_finRange, Owner.all] at total
  simp only [List.map_cons, List.map_append, List.map_map, List.map_nil, List.sum_cons, List.sum_append, List.sum_nil]
    at total
  have intake : (match s.recv.intake with | none => 0 | some m => m.cells.length) = (s.cellsOf .intake).length := by
    cases pending : s.recv.intake <;> simp [State.cellsOf, pending]
  have records : (s.recv.records.map fun r => r.cells.length).sum = (s.cellsOf .record).length :=
    List.length_flatMap.symm
  rw [records]
  refine Eq.trans (congrArg (_ + · + _) intake) ?_
  rw [← total, add_zero, add_assoc, add_assoc]
  rfl

end Sys2Proof.Machine

/-! SUPPORT. The fields of the header that a claim forms, and the statement about it. -/

namespace Sys2Proof.Machine

/-! ### The header of an entry (R79) -/

namespace LineEngine

variable {l : LineEngine} {node : Nibble} {e : SendEntry} {first : Bool}

theorem origin_of_header (frames : l.frames = formHeader node e first) : l.origin = node := by
  have high (n k : Nibble) : hi (pack n k) = n := by revert n k; decide
  simp only [origin, frames, formHeader, Option.getD_some, high]

theorem lowBits_of_header (frames : l.frames = formHeader node e first) : l.lowBits = 0 := by
  have low (n : Nibble) (u f : Bool) : (pack n (headerFlags u f)).extractLsb' 0 2 = 0 := by revert n u f; decide
  simp only [lowBits, frames, formHeader, Option.getD_some, low]

theorem lengthField_of_header (frames : l.frames = formHeader node e first) (length : e.length ≤ 128) :
    l.lengthField = e.length := by
  have small : e.length < 2 ^ 8 := lt_of_le_of_lt length (by decide)
  simp only [lengthField, frames, formHeader, Option.getD_some, byte, BitVec.toNat_ofNat, Nat.mod_eq_of_lt small]

/-- R32: a claim's header is none of it. -/
theorem broadcastMalformed_of_header (frames : l.frames = formHeader node e first) (length : e.length ≤ 128)
    (named : node ≠ 15) {other : Nibble} (differ : other ≠ node) : l.broadcastMalformed other = false := by
  simp only [broadcastMalformed, lowBits_of_header frames, origin_of_header frames, lengthField_of_header frames length,
    beq_eq_false_iff_ne.mpr named, beq_eq_false_iff_ne.mpr differ.symm, decide_eq_false (not_lt.mpr length),
    bne_self_eq_false, Bool.or_self]

/-- R31: a claim's header is malformed by its kind and length alone. -/
theorem malformed_of_header (frames : l.frames = formHeader node e first) (length : e.length ≤ 128) (named : node ≠ 15)
    {target : Nibble} (differ : target ≠ node) {k : Kind} (kind : e.kind = some k) (single : k ≠ .broadcast)
    (fits : lengthFits k e.length = true) : l.malformed target = false := by
  have kinds : ((some k : Option Kind).isNone || some k == some .broadcast
      || (some k == some .probe && e.length != 0) || (some k == some .collect && e.length == 0)) = false := by
    cases k with
    | broadcast => exact absurd rfl single
    | data => rfl
    | probe | collect => simpa [lengthFits] using fits
  simp only [Bool.or_eq_false_iff] at kinds
  obtain ⟨⟨⟨named', notBroadcast⟩, probe⟩, collect⟩ := kinds
  simp only [malformed, kind_of_header frames, kind, lowBits_of_header frames, origin_of_header frames,
    lengthField_of_header frames length, beq_eq_false_iff_ne.mpr named, beq_eq_false_iff_ne.mpr differ.symm,
    decide_eq_false (not_lt.mpr length), bne_self_eq_false, named', notBroadcast, probe, collect, Bool.or_self]

end LineEngine

/-- Settles O49: the header of a tested entry, by its kind, its destination and its length. -/
theorem headerOfAClaimIsNeverMalformed : Obligations.HeaderOfAClaimIsNeverMalformed := by
  unfold Obligations.HeaderOfAClaimIsNeverMalformed
  intro s h first l settings posted unfinished frames
  obtain ⟨k, kind, -, foreign, fits, -⟩ := posted.tested h unfinished
  have named : s.window.settings.node ≠ 15 := fun fifteen => absurd settings.node (by simp [fifteen])
  exact ⟨fun single => LineEngine.malformed_of_header frames (posted.length h) named foreign kind
      (fun broadcast => single (broadcast ▸ kind)) fits,
    fun node differ => LineEngine.broadcastMalformed_of_header frames (posted.length h) named differ⟩

end Sys2Proof.Machine

/-! SUPPORT. What each operation leaves of the fields that few commands name. -/

namespace Sys2Proof.Machine

/-- The fields of the part that few commands change. -/
inductive Item where
  | mem | settings | operandA | operandB | operandC | viewSelect | enables | sources | arrivals | posts | tags | halted
  | result
  deriving DecidableEq

namespace State

/-- The two states agree in a field. -/
def Same (s t : State) : Item → Prop
  | .mem => t.pool.mem = s.pool.mem
  | .settings => t.window.settings = s.window.settings
  | .operandA => t.window.opA = s.window.opA
  | .operandB => t.window.opB = s.window.opB
  | .operandC => t.window.opC = s.window.opC
  | .viewSelect => t.window.viewSelect = s.window.viewSelect
  | .enables => t.events.enables = s.events.enables
  | .sources => t.recv.sources = s.recv.sources
  | .arrivals => t.recv.arrivalCounter = s.recv.arrivalCounter
  | .posts => t.queue.postCounter = s.queue.postCounter
  | .tags => (fun d => (t.dest d).nextTag) = fun d => (s.dest d).nextTag
  | .halted => t.queue.halted = s.queue.halted
  | .result => t.window.result = s.window.result

theorem Same.trans {s t u : State} {i : Item} (first : s.Same t i) (second : t.Same u i) : s.Same u i := by
  cases i <;> exact Eq.trans second first

theorem Same.symm {s t : State} {i : Item} (same : s.Same t i) : t.Same s i := by
  cases i <;> exact Eq.symm same

/-- From s to t only the fields of L change. -/
def Leaves (s t : State) (L : List Item) : Prop := ∀ i, i ∉ L → s.Same t i

@[simp] theorem leaves_refl (s : State) (L : List Item) : s.Leaves s L := fun i _ => by cases i <;> rfl

/-- An operation that itself changes fields of L alone. -/
theorem leaves_congr {s t u : State} {L : List Item} (same : t.Leaves u L) : s.Leaves u L ↔ s.Leaves t L :=
  ⟨fun h i out => (h i out).trans (same i out).symm, fun h i out => (h i out).trans (same i out)⟩

/-- It is enough to look at the branches. -/
@[simp] theorem leaves_ite {s t u : State} {L : List Item} {c : Prop} [Decidable c] :
    s.Leaves (if c then t else u) L ↔ (c → s.Leaves t L) ∧ (¬ c → s.Leaves u L) := by
  split <;> simp [*]

variable {s t : State} {L : List Item}

/-! ### The plain updates -/

@[simp] theorem leaves_withLine (l : LineEngine) : s.Leaves (t.withLine l) L ↔ s.Leaves t L :=
  leaves_congr fun i _ => by cases i <;> rfl
@[simp] theorem leaves_withEntry (h : Handle) (e : SendEntry) : s.Leaves (t.withEntry h e) L ↔ s.Leaves t L :=
  leaves_congr fun i _ => by cases i <;> rfl
@[simp] theorem leaves_withOffer (i : OfferIndex) (o : Offer) : s.Leaves (t.withOffer i o) L ↔ s.Leaves t L :=
  leaves_congr fun i _ => by cases i <;> rfl
@[simp] theorem leaves_dropOffer (i : OfferIndex) (o : Offer) : s.Leaves (t.dropOffer i o) L ↔ s.Leaves t L :=
  leaves_congr fun i _ => by cases i <;> rfl
@[simp] theorem leaves_withFill (f : Option FillCursor) : s.Leaves (t.withFill f) L ↔ s.Leaves t L :=
  leaves_congr fun i _ => by cases i <;> rfl
@[simp] theorem leaves_withStats (c : Statistics) : s.Leaves (t.withStats c) L ↔ s.Leaves t L :=
  leaves_congr fun i _ => by cases i <;> rfl
@[simp] theorem leaves_windowError : s.Leaves t.windowError L ↔ s.Leaves t L :=
  leaves_congr fun i _ => by cases i <;> rfl

theorem leaves_withResult (r : ResultCode) (named : .result ∈ L) : s.Leaves (t.withResult r) L ↔ s.Leaves t L :=
  leaves_congr fun i out => by
    cases i
    case result => exact absurd named out
    all_goals rfl
theorem leaves_withOperandC (b : Byte) (named : .operandC ∈ L) : s.Leaves (t.withOperandC b) L ↔ s.Leaves t L :=
  leaves_congr fun i out => by
    cases i
    case operandC => exact absurd named out
    all_goals rfl
theorem leaves_withPool (p : Pool) (named : .mem ∈ L) : s.Leaves (t.withPool p) L ↔ s.Leaves t L :=
  leaves_congr fun i out => by
    cases i
    case mem => exact absurd named out
    all_goals rfl
theorem leaves_withPool_same {p : Pool} (same : p.mem = t.pool.mem) : s.Leaves (t.withPool p) L ↔ s.Leaves t L :=
  leaves_congr fun i _ => by
    cases i
    case mem => exact same
    all_goals rfl
theorem leaves_withSource (o : Nibble) (x : Source) (named : .sources ∈ L) :
    s.Leaves (t.withSource o x) L ↔ s.Leaves t L :=
  leaves_congr fun i out => by
    cases i
    case sources => exact absurd named out
    all_goals unfold withSource; split <;> rfl

theorem leaves_withDest {d : Nibble} {x : Destination} (same : x.nextTag = (t.dest d).nextTag) :
    s.Leaves (t.withDest d x) L ↔ s.Leaves t L :=
  leaves_congr fun i _ => by
    cases i
    case tags =>
      funext c
      rw [dest_withDest]
      split
      next e => rw [same, e]
      next => rfl
    all_goals rfl

/-! ### The ends of an attempt -/

@[simp] theorem leaves_finish (h : Handle) (o : SendOutcome) : s.Leaves (t.finish h o) L ↔ s.Leaves t L :=
  leaves_congr fun i _ => by cases i <;> unfold finish <;> split <;> rfl

/-- The entries are no field of `Item`. -/
theorem leaves_withEntries (v : Vector SendEntry 8) :
    s.Leaves { t with queue := { t.queue with entries := v } } L ↔ s.Leaves t L :=
  leaves_congr fun i _ => by cases i <;> rfl

@[simp] theorem leaves_suspend (d : Nibble) (n : Byte) : s.Leaves (t.suspend d n) L ↔ s.Leaves t L :=
  (leaves_withEntries _).trans (leaves_withDest rfl)

@[simp] theorem leaves_clearFresh (d : Nibble) : s.Leaves (t.clearFresh d) L ↔ s.Leaves t L := leaves_withDest rfl

@[simp] theorem leaves_settle (h : Handle) (o : SendOutcome) : s.Leaves (t.settle h o) L ↔ s.Leaves t L := by
  cases o <;> simp only [settle, leaves_suspend, leaves_finish, leaves_ite, leaves_clearFresh] <;> tauto

@[simp] theorem leaves_countAttempt (h : Handle) (r : Reason) : s.Leaves (t.countAttempt h r) L ↔ s.Leaves t L :=
  leaves_withEntry h _

@[simp] theorem leaves_consume (h : Handle) (r : Reason) : s.Leaves (t.consume h r) L ↔ s.Leaves t L := by
  unfold consume
  split
  · simp
  · split <;> simp

@[simp] theorem leaves_handBack (h : Handle) : s.Leaves (t.handBack h) L ↔ s.Leaves t L := by
  unfold handBack; split <;> simp

@[simp] theorem leaves_claimTest : s.Leaves t.claimTest L ↔ s.Leaves t L := by
  unfold claimTest
  split
  · split
    · exact leaves_congr fun i _ => by cases i <;> rfl
    · rfl
  · rfl

/-! ### The Receive List and the offers -/

theorem leaves_commit (r : ReceiveRecord) (named : .arrivals ∈ L) : s.Leaves (t.commit r) L ↔ s.Leaves t L :=
  leaves_congr fun i out => by
    cases i
    case arrivals => exact absurd named out
    all_goals rfl

theorem leaves_commitIntake (k : RecordKind) (named : .arrivals ∈ L) :
    s.Leaves (t.commitIntake k) L ↔ s.Leaves t L :=
  leaves_congr fun i out => by
    cases i
    case arrivals => exact absurd named out
    all_goals unfold commitIntake; split <;> rfl

@[simp] theorem leaves_discardIntake : s.Leaves t.discardIntake L ↔ s.Leaves t L :=
  leaves_congr fun i _ => by cases i <;> unfold discardIntake <;> split <;> rfl

theorem leaves_beginIntake (named : .mem ∈ L) : s.Leaves t.beginIntake L ↔ s.Leaves t L :=
  leaves_congr fun i out => by
    cases i
    case mem => exact absurd named out
    all_goals rfl

theorem leaves_writeIntake (k : Nat) (f : Byte) (named : .mem ∈ L) : s.Leaves (t.writeIntake k f) L ↔ s.Leaves t L := by
  unfold writeIntake
  split
  · rfl
  · exact leaves_withPool _ named

@[simp] theorem leaves_missBroadcast : s.Leaves t.missBroadcast L ↔ s.Leaves t L :=
  leaves_congr fun i _ => by cases i <;> unfold missBroadcast discardIntake <;> split <;> rfl

@[simp] theorem leaves_returnOffer (i : OfferIndex) : s.Leaves (t.returnOffer i) L ↔ s.Leaves t L := by
  unfold returnOffer; split <;> simp

@[simp] theorem leaves_giveOffer (i : OfferIndex) (o : Nibble) : s.Leaves (t.giveOffer i o) L ↔ s.Leaves t L :=
  leaves_dropOffer i _

/-! ### The Line Engine -/

@[simp] theorem leaves_becomeBystander : s.Leaves t.becomeBystander L ↔ s.Leaves t L := leaves_withLine _
@[simp] theorem leaves_enterSettling : s.Leaves t.enterSettling L ↔ s.Leaves t L := leaves_withLine _
@[simp] theorem leaves_clearHoldOff : s.Leaves t.clearHoldOff L ↔ s.Leaves t L := leaves_withLine _
@[simp] theorem leaves_lineDisabled : s.Leaves t.lineDisabled L ↔ s.Leaves t L := leaves_withLine _
@[simp] theorem leaves_holdCarried (f : Byte) : s.Leaves (t.holdCarried f) L ↔ s.Leaves t L := leaves_withLine _
@[simp] theorem leaves_headerDriven (f : Byte) (p : Phase) : s.Leaves (t.headerDriven f p) L ↔ s.Leaves t L :=
  leaves_withLine _
@[simp] theorem leaves_headerRead (fs : Frames) (f : Byte) (p : Phase) :
    s.Leaves (t.headerRead fs f p) L ↔ s.Leaves t L := leaves_withLine _
@[simp] theorem leaves_withAnswer (a : Answer) (p : Path) : s.Leaves (t.withAnswer a p) L ↔ s.Leaves t L :=
  leaves_withLine _
@[simp] theorem leaves_beginListening : s.Leaves t.beginListening L ↔ s.Leaves t L := leaves_withLine _
@[simp] theorem leaves_toPhase (p : Phase) : s.Leaves (t.toPhase p) L ↔ s.Leaves t L := leaves_withLine _
@[simp] theorem leaves_takeL (f : Byte) : s.Leaves (t.takeL f) L ↔ s.Leaves t L := leaves_withLine _
@[simp] theorem leaves_holdC0 (f : Byte) : s.Leaves (t.holdC0 f) L ↔ s.Leaves t L := leaves_withLine _
@[simp] theorem leaves_decideVerdict (v : Verdict) : s.Leaves (t.decideVerdict v) L ↔ s.Leaves t L := leaves_withLine _
@[simp] theorem leaves_advance (f : Option Byte) (p : Phase) : s.Leaves (t.advance f p) L ↔ s.Leaves t L := by
  cases f <;> exact leaves_withLine _

@[simp] theorem leaves_releaseLine (low : Bool) : s.Leaves (t.releaseLine low) L ↔ s.Leaves t L := by
  unfold releaseLine; split <;> simp

@[simp] theorem leaves_endEarly : s.Leaves t.endEarly L ↔ s.Leaves t L := by
  unfold endEarly
  split
  · split <;> simp
  · split <;> simp
  all_goals simp

@[simp] theorem leaves_seeRelease : s.Leaves t.seeRelease L ↔ s.Leaves t L := by
  unfold seeRelease; split <;> simp

@[simp] theorem leaves_loseArbitration (h : Handle) : s.Leaves (t.loseArbitration h) L ↔ s.Leaves t L := by
  simp [loseArbitration]

@[simp] theorem leaves_meetConflict (h : Handle) : s.Leaves (t.meetConflict h) L ↔ s.Leaves t L := by
  simp [meetConflict]

@[simp] theorem leaves_giveUp : s.Leaves t.giveUp L ↔ s.Leaves t L := by
  unfold giveUp; split <;> simp

@[simp] theorem leaves_takeRole : s.Leaves t.takeRole L ↔ s.Leaves t L := by
  unfold takeRole; split <;> simp

/-! ### Admission and gathering -/

theorem leaves_admitData (named : .mem ∈ L) : s.Leaves t.admitData L ↔ s.Leaves t L := by
  unfold admitData
  split
  · simp
  · split <;> simp [leaves_beginIntake named, refuseBusy]

@[simp] theorem leaves_admitCollect : s.Leaves t.admitCollect L ↔ s.Leaves t L := by
  unfold admitCollect; split <;> simp

theorem leaves_admission (named : .mem ∈ L) : s.Leaves t.admission L ↔ s.Leaves t L := by
  unfold admission
  split
  · simp
  · split
    · simp
    · split <;> simp [leaves_admitData named]

theorem leaves_gather (named : .mem ∈ L) : s.Leaves t.gather L ↔ s.Leaves t L := by
  unfold gather
  split
  · simp
  · split <;> simp [leaves_beginIntake named]

/-! ### The frames after the header -/

@[simp] theorem leaves_serverWithdraws (i : OfferIndex) : s.Leaves (t.serverWithdraws i) L ↔ s.Leaves t L := by
  simp [serverWithdraws]

@[simp] theorem leaves_serverWithdrawsAt (i : OfferIndex) (f : Byte) :
    s.Leaves (t.serverWithdrawsAt i f) L ↔ s.Leaves t L := by
  simp [serverWithdrawsAt]

@[simp] theorem leaves_targetWithdraws : s.Leaves t.targetWithdraws L ↔ s.Leaves t L := by
  simp [targetWithdraws]

@[simp] theorem leaves_conflictWith (h : Handle) (f : Byte) (low : Bool) :
    s.Leaves (t.conflictWith h f low) L ↔ s.Leaves t L := by
  unfold conflictWith; split <;> simp

@[simp] theorem leaves_endConsumed (h : Handle) (r : Reason) (low : Bool) :
    s.Leaves (t.endConsumed h r low) L ↔ s.Leaves t L := by
  simp [endConsumed]

@[simp] theorem leaves_endSettled (h : Handle) (o : SendOutcome) (low : Bool) :
    s.Leaves (t.endSettled h o low) L ↔ s.Leaves t L := by
  simp [endSettled]

@[simp] theorem leaves_answerRead (h : Handle) (k : Kind) (f : Byte) (low : Bool) :
    s.Leaves (t.answerRead h k f low) L ↔ s.Leaves t L := by
  unfold answerRead
  split
  · split <;> simp
  all_goals simp

@[simp] theorem leaves_answerDriven (f : Byte) : s.Leaves (t.answerDriven f) L ↔ s.Leaves t L := by
  unfold answerDriven
  split
  · rfl
  · split
    · split <;> simp
    · simp

theorem leaves_storePayload (k : Nat) (f : Byte) (named : .mem ∈ L) :
    s.Leaves (t.storePayload k f) L ↔ s.Leaves t L := by
  unfold storePayload; split <;> simp [leaves_writeIntake _ _ named]

@[simp] theorem leaves_targetVerdict (f : Byte) : s.Leaves (t.targetVerdict f) L ↔ s.Leaves t L := by
  unfold targetVerdict; split <;> simp

theorem leaves_gatherVerdict (f : Byte) (named : .arrivals ∈ L) : s.Leaves (t.gatherVerdict f) L ↔ s.Leaves t L := by
  unfold gatherVerdict; split <;> simp [leaves_commitIntake _ named]

theorem leaves_collected (h : Handle) (named : .arrivals ∈ L) : s.Leaves (t.collected h) L ↔ s.Leaves t L :=
  (leaves_settle h _).trans ((leaves_commit _ named).trans ((leaves_withEntry h _).trans
    (leaves_withPool_same rfl)))

@[simp] theorem leaves_verdictRead (h : Handle) (f : Byte) (low : Bool) :
    s.Leaves (t.verdictRead h f low) L ↔ s.Leaves t L := by
  unfold verdictRead; split <;> simp

theorem leaves_collectorEnds (h : Handle) (low : Bool) (named : .arrivals ∈ L) :
    s.Leaves (t.collectorEnds h low) L ↔ s.Leaves t L := by
  unfold collectorEnds; split <;> simp [leaves_collected _ named]

theorem leaves_verdictStands (arrivals : .arrivals ∈ L) (sources : .sources ∈ L) :
    s.Leaves t.verdictStands L ↔ s.Leaves t L := by
  unfold verdictStands
  split <;>
    simp [noteSource, countDuplicate, leaves_withSource _ _ sources, leaves_commitIntake _ arrivals]

theorem leaves_verdictDriven (f : Byte) (arrivals : .arrivals ∈ L) (sources : .sources ∈ L) :
    s.Leaves (t.verdictDriven f) L ↔ s.Leaves t L := by
  unfold verdictDriven
  split
  · rfl
  · simp
  · split <;> simp [leaves_verdictStands arrivals sources]

@[simp] theorem leaves_serverVerdict (i : OfferIndex) (f : Byte) : s.Leaves (t.serverVerdict i f) L ↔ s.Leaves t L := by
  unfold serverVerdict; split <;> simp

/-! ### The timers -/

@[simp] theorem leaves_quietExpiry : s.Leaves t.quietExpiry L ↔ s.Leaves t L := by
  unfold quietExpiry; split <;> simp

@[simp] theorem leaves_longQuietExpiry : s.Leaves t.longQuietExpiry L ↔ s.Leaves t L := by
  unfold longQuietExpiry; split <;> simp

@[simp] theorem leaves_becomeStuck : s.Leaves t.becomeStuck L ↔ s.Leaves t L :=
  leaves_congr fun i out => by
    have givenUp := leaves_giveUp.mpr (t.leaves_refl L) i out
    cases i
    case enables => rfl
    all_goals exact givenUp

@[simp] theorem leaves_claimLimitExpiry : s.Leaves t.claimLimitExpiry L ↔ s.Leaves t L := by
  unfold claimLimitExpiry; split <;> simp

@[simp] theorem leaves_backoffExpiry (h : Handle) : s.Leaves (t.backoffExpiry h) L ↔ s.Leaves t L := by
  unfold backoffExpiry; split <;> simp

/-! ### The host's commands -/

@[simp] theorem leaves_takeHead (head : ReceiveRecord) (rest : List ReceiveRecord) :
    s.Leaves (t.takeHead head rest) L ↔ s.Leaves t L := leaves_congr fun i _ => by cases i <;> rfl

@[simp] theorem leaves_takeHeadReport (rest : List Report) : s.Leaves (t.takeHeadReport rest) L ↔ s.Leaves t L :=
  leaves_congr fun i _ => by cases i <;> unfold takeHeadReport <;> split <;> rfl

@[simp] theorem leaves_postOffer (i : OfferIndex) : s.Leaves (t.postOffer i) L ↔ s.Leaves t L :=
  leaves_congr fun i _ => by cases i <;> rfl

@[simp] theorem leaves_dropStaging (h : Handle) : s.Leaves (t.dropStaging h) L ↔ s.Leaves t L :=
  leaves_congr fun i _ => by cases i <;> rfl

theorem leaves_halted (b : Bool) (named : .halted ∈ L) :
    s.Leaves { t with queue := { t.queue with halted := b } } L ↔ s.Leaves t L :=
  leaves_congr fun i out => by
    cases i
    case halted => exact absurd named out
    all_goals rfl

@[simp] theorem leaves_resumeDest (d : Nibble) : s.Leaves (t.resumeDest d) L ↔ s.Leaves t L :=
  (leaves_withEntries _).trans (leaves_withDest rfl)

@[simp] theorem leaves_finishAll (hs : List Handle) (o : SendOutcome) :
    s.Leaves (hs.foldl (fun t h => t.finish h o) t) L ↔ s.Leaves t L := by
  induction hs generalizing t with
  | nil => rfl
  | cons h hs ih => exact ih.trans (leaves_finish h o)

@[simp] theorem leaves_discardDest (d : Nibble) : s.Leaves (t.discardDest d) L ↔ s.Leaves t L := by
  have kept : (t.dest d).nextTag = ((t.finishAll (t.heldTo d) .discarded).dest d).nextTag := by rw [dest_finishAll]
  exact (leaves_withDest (t := t.finishAll (t.heldTo d) .discarded) (x := { t.dest d with suspended := false })
    kept).trans (leaves_finishAll _ _)

theorem leaves_openSend (h : Handle) (n : Nat) (mem : .mem ∈ L) (result : .result ∈ L) (operandC : .operandC ∈ L) :
    s.Leaves (t.openSend h n) L ↔ s.Leaves t L := by
  simp [openSend, leaves_withResult _ result, leaves_withOperandC _ operandC, leaves_withPool _ mem]

theorem leaves_openOffer (i : OfferIndex) (n : Nat) (a : Nibble) (mem : .mem ∈ L) (result : .result ∈ L)
    (operandC : .operandC ∈ L) : s.Leaves (t.openOffer i n a) L ↔ s.Leaves t L := by
  simp [openOffer, leaves_withResult _ result, leaves_withOperandC _ operandC, leaves_withPool _ mem]

theorem leaves_postEntry (h : Handle) (k : Kind) (posts : .posts ∈ L) (tags : .tags ∈ L) :
    s.Leaves (t.postEntry h k) L ↔ s.Leaves t L :=
  leaves_congr fun i out => by
    cases i
    case posts => exact absurd posts out
    case tags => exact absurd tags out
    all_goals rfl

end State
end Sys2Proof.Machine

/-! SUPPORT. What each command leaves of those fields, and the statement about it. -/

namespace Sys2Proof.Machine

/-- From s to the state of the outcome only the fields of L change; a refusal changes nothing. -/
def Res.Leaves (r : Res) (s : State) (L : List Item) : Prop := ∀ t, r = .next t → s.Leaves t L

@[simp] theorem Res.leaves_next {s t : State} {L : List Item} :
    Res.Leaves (.next t) s L ↔ s.Leaves t L :=
  ⟨fun h => h t rfl, fun h u e => by cases e; exact h⟩

@[simp] theorem Res.leaves_refused {s : State} {L : List Item} (r : Refusal) : Res.Leaves (.refused r) s L :=
  fun _ e => by cases e

/-- The field of `Item` that a write of a register stores to. -/
def registerItems : WindowRegister → List Item
  | .operandA => [.operandA]
  | .operandB => [.operandB]
  | .operandC => [.operandC]
  | .viewSelect => [.viewSelect]
  | .status | .drainData | .view _ => []

theorem mem_registerItems (i : Item) (r : WindowRegister) :
    i ∈ registerItems r ↔ i = .operandA ∧ r = .operandA ∨ i = .operandB ∧ r = .operandB
      ∨ i = .operandC ∧ r = .operandC ∨ i = .viewSelect ∧ r = .viewSelect := by
  cases r <;> simp [registerItems]

/-- The fields of `Item` that a command may change. -/
def mayChange : Instr → List Item
  | .powerOn => [.mem, .settings, .operandA, .operandB, .operandC, .viewSelect, .enables, .sources, .arrivals, .posts,
      .tags, .halted, .result]
  | .softReset => [.operandA, .operandB, .operandC, .viewSelect, .enables, .sources, .arrivals, .posts, .tags, .halted,
      .result]
  | .configure => [.settings, .result]
  | .openSend | .openOffer => [.mem, .operandC, .result]
  | .post => [.posts, .tags, .result]
  | .halt | .go => [.halted, .result]
  | .lineOn _ | .lineOff | .cancel | .resume | .discard | .take | .takeReport | .postOffer | .withdraw | .clearOffer
  | .clearStatistics | .unknownCommand _ => [.result]
  | .fillData _ | .h3Completes _ | .payloadFrameCompletes _ _ => [.mem]
  | .enablesWrite _ => [.enables]
  | .registerWrite r _ => registerItems r
  | .c1Completes _ _ _ => [.arrivals]
  | .vCompletes _ _ _ => [.sources, .arrivals]
  | .drainData | .eventsWrite _ | .lclSeenGoingLow | .lclSeenReleased | .quietTimerExpires | .longQuietTimerExpires
  | .claimLimitTimerExpires | .backoffTimerExpires _ | .lostArbitration _ | .conflict _ | .h0Completes _
  | .h1Completes _ | .h2Completes _ | .aCompletes _ _ | .lCompletes _ _ | .c0Completes _ _ => []

namespace State

variable {s : State}

/-! ### The host's commands -/

theorem execPowerOn_leaves : (execPowerOn s).Leaves s (mayChange .powerOn) :=
  Res.leaves_next.mpr fun i out => by cases i <;> exact absurd out (by decide)

theorem execSoftReset_leaves : (execSoftReset s).Leaves s (mayChange .softReset) :=
  Res.leaves_next.mpr fun i out => by
    cases i
    case mem => rfl
    case settings => rfl
    all_goals exact absurd out (by decide)

theorem execConfigure_leaves : (execConfigure s).Leaves s [.settings, .result] := by
  unfold execConfigure
  split
  · refine Res.leaves_next.mpr fun i out => ?_
    cases i
    case settings => simp at out
    case result => simp at out
    all_goals rfl
  · simp [leaves_withResult]

theorem execLineOn_leaves (low : Bool) : (execLineOn low s).Leaves s [.result] := by
  unfold execLineOn; split <;> simp [leaves_withResult]

theorem execLineOff_leaves : (execLineOff s).Leaves s [.result] := by
  unfold execLineOff; split <;> simp [leaves_withResult]

theorem execClearStatistics_leaves : (execClearStatistics s).Leaves s [.result] := by
  simp [execClearStatistics, leaves_withResult]

theorem execUnknownCommand_leaves (code : Byte) : (execUnknownCommand code s).Leaves s [.result] := by
  unfold execUnknownCommand; split <;> simp [leaves_withResult]

theorem execOpenSend_leaves : (execOpenSend s).Leaves s [.mem, .operandC, .result] := by
  unfold execOpenSend; split <;> simp [leaves_withResult, leaves_openSend]

theorem execPost_leaves : (execPost s).Leaves s [.posts, .tags, .result] := by
  unfold execPost
  split
  · simp [leaves_withResult]
  · split <;> simp [leaves_withResult, leaves_postEntry]

theorem execCancel_leaves : (execCancel s).Leaves s [.result] := by
  unfold execCancel
  split
  · simp [leaves_withResult]
  · split <;> simp [leaves_withResult]

theorem execHalt_leaves : (execHalt s).Leaves s [.halted, .result] := by
  simp [execHalt, leaves_withResult, leaves_halted]

theorem execGo_leaves : (execGo s).Leaves s [.halted, .result] := by
  simp [execGo, leaves_withResult, leaves_halted]

theorem execResume_leaves : (execResume s).Leaves s [.result] := by
  unfold execResume; split <;> simp [leaves_withResult]

theorem execDiscard_leaves : (execDiscard s).Leaves s [.result] := by
  unfold execDiscard; split <;> simp [leaves_withResult]

theorem execTake_leaves : (execTake s).Leaves s [.result] := by
  unfold execTake; split <;> simp [leaves_withResult]

theorem execTakeReport_leaves : (execTakeReport s).Leaves s [.result] := by
  unfold execTakeReport; split <;> simp [leaves_withResult]

theorem execOpenOffer_leaves : (execOpenOffer s).Leaves s [.mem, .operandC, .result] := by
  unfold execOpenOffer; split <;> simp [leaves_withResult, leaves_openOffer]

theorem execPostOffer_leaves : (execPostOffer s).Leaves s [.result] := by
  unfold execPostOffer
  split
  · simp [leaves_withResult]
  · split <;> simp [leaves_withResult]

theorem execWithdraw_leaves : (execWithdraw s).Leaves s [.result] := by
  unfold execWithdraw
  split
  · simp [leaves_withResult]
  · split <;> simp [leaves_withResult]

theorem execClearOffer_leaves : (execClearOffer s).Leaves s [.result] := by
  unfold execClearOffer
  split
  · simp [leaves_withResult]
  · split <;> simp [leaves_withResult]

/-! ### The register accesses -/

theorem execFillData_leaves (v : Byte) : (execFillData v s).Leaves s [.mem] := by
  unfold execFillData
  split
  · simp
  · split <;> simp [leaves_withPool]

theorem execDrainData_leaves : (execDrainData s).Leaves s [] := by
  unfold execDrainData
  split <;> exact Res.leaves_next.mpr fun i _ => by cases i <;> rfl

theorem execEventsWrite_leaves (v : Byte) : (execEventsWrite v s).Leaves s [] :=
  Res.leaves_next.mpr fun i _ => by cases i <;> rfl

theorem execEnablesWrite_leaves (v : Byte) : (execEnablesWrite v s).Leaves s [.enables] :=
  Res.leaves_next.mpr fun i out => by
    cases i
    case enables => simp at out
    all_goals rfl

theorem execRegisterWrite_leaves (r : WindowRegister) (v : Byte) :
    (execRegisterWrite r v s).Leaves s (mayChange (.registerWrite r v)) := by
  cases r
  case status | drainData | view => exact Res.leaves_next.mpr (leaves_windowError.mpr (s.leaves_refl _))
  all_goals
    refine Res.leaves_next.mpr fun i out => ?_
    cases i <;> try rfl
    exact absurd (List.mem_singleton.mpr rfl) out

/-! ### The events of the line and of the timers -/

theorem execLclSeenGoingLow_leaves : (execLclSeenGoingLow s).Leaves s [] := by
  unfold execLclSeenGoingLow; split <;> simp

theorem execLostArbitration_leaves (low : Bool) : (execLostArbitration low s).Leaves s [] := by
  unfold execLostArbitration
  split
  · split <;> simp
  · simp

theorem execConflict_leaves (low : Bool) : (execConflict low s).Leaves s [] := by
  unfold execConflict
  split
  · split
    · split <;> simp
    · simp
  all_goals simp

/-! ### The frames -/

theorem execH0Completes_leaves (f : Byte) : (execH0Completes f s).Leaves s [] := by
  unfold execH0Completes
  split
  · split <;> simp [readH0]
  all_goals simp [readH0]

theorem execH1Completes_leaves (f : Byte) : (execH1Completes f s).Leaves s [] := by
  unfold execH1Completes
  split
  · split <;> simp
  all_goals simp [readH1]

theorem execH2Completes_leaves (f : Byte) : (execH2Completes f s).Leaves s [] := by
  unfold execH2Completes
  split
  · split <;> simp
  all_goals simp [readH2]

theorem execH3Completes_leaves (f : Byte) : (execH3Completes f s).Leaves s [.mem] := by
  unfold execH3Completes
  split
  · split <;> simp
  all_goals simp [readH3, leaves_admission, leaves_gather]

theorem execACompletes_leaves (f : Byte) (low : Bool) : (execACompletes f low s).Leaves s [] := by
  unfold execACompletes
  split
  · split <;> simp
  · simp
  · simp
  · split <;> simp
  · simp

theorem execLCompletes_leaves (f : Byte) (low : Bool) : (execLCompletes f low s).Leaves s [] := by
  unfold execLCompletes
  split
  · split <;> simp
  · split <;> simp
  · simp

theorem execPayloadFrameCompletes_leaves (f g : Byte) : (execPayloadFrameCompletes f g s).Leaves s [.mem] := by
  unfold execPayloadFrameCompletes
  split
  · split
    · simp [writeReply, leaves_withPool]
    · split <;> simp
  · simp [leaves_storePayload]
  · simp [leaves_writeIntake]
  · split <;> simp
  all_goals simp

theorem execC0Completes_leaves (f g : Byte) : (execC0Completes f g s).Leaves s [] := by
  unfold execC0Completes
  split
  · split
    · simp
    · split <;> simp
  · simp
  · simp
  · split <;> simp
  all_goals simp

theorem execC1Completes_leaves (f g : Byte) (low : Bool) : (execC1Completes f g low s).Leaves s [.arrivals] := by
  unfold execC1Completes
  split
  · split
    · simp
    · split
      · split <;> simp
      · simp
  · simp
  · simp [leaves_gatherVerdict]
  · split <;> simp
  all_goals simp

theorem execVCompletes_leaves (f g : Byte) (low : Bool) : (execVCompletes f g low s).Leaves s [.sources, .arrivals] := by
  unfold execVCompletes
  split
  · split
    · split <;> simp [leaves_collectorEnds]
    · simp
  · simp [leaves_verdictDriven]
  all_goals simp

end State

/-- A command changes the fields of `Item` that it may change, and no other. -/
theorem exec_leaves (c : Instr) (s : State) : Res.Leaves (exec c s) s (mayChange c) := by
  cases c with
  | powerOn => exact State.execPowerOn_leaves
  | configure => exact State.execConfigure_leaves
  | lineOn low => exact State.execLineOn_leaves low
  | lineOff => exact State.execLineOff_leaves
  | softReset => exact State.execSoftReset_leaves
  | openSend => exact State.execOpenSend_leaves
  | post => exact State.execPost_leaves
  | cancel => exact State.execCancel_leaves
  | halt => exact State.execHalt_leaves
  | go => exact State.execGo_leaves
  | resume => exact State.execResume_leaves
  | discard => exact State.execDiscard_leaves
  | take => exact State.execTake_leaves
  | takeReport => exact State.execTakeReport_leaves
  | openOffer => exact State.execOpenOffer_leaves
  | postOffer => exact State.execPostOffer_leaves
  | withdraw => exact State.execWithdraw_leaves
  | clearOffer => exact State.execClearOffer_leaves
  | clearStatistics => exact State.execClearStatistics_leaves
  | unknownCommand code => exact State.execUnknownCommand_leaves code
  | fillData v => exact State.execFillData_leaves v
  | drainData => exact State.execDrainData_leaves
  | eventsWrite v => exact State.execEventsWrite_leaves v
  | enablesWrite v => exact State.execEnablesWrite_leaves v
  | registerWrite r v => exact State.execRegisterWrite_leaves r v
  | lclSeenGoingLow => exact State.execLclSeenGoingLow_leaves
  | lclSeenReleased => exact Res.leaves_next.mpr (State.leaves_seeRelease.mpr (s.leaves_refl _))
  | quietTimerExpires => exact Res.leaves_next.mpr (State.leaves_quietExpiry.mpr (s.leaves_refl _))
  | longQuietTimerExpires => exact Res.leaves_next.mpr (State.leaves_longQuietExpiry.mpr (s.leaves_refl _))
  | claimLimitTimerExpires => exact Res.leaves_next.mpr (State.leaves_claimLimitExpiry.mpr (s.leaves_refl _))
  | backoffTimerExpires h => exact Res.leaves_next.mpr ((State.leaves_backoffExpiry h).mpr (s.leaves_refl _))
  | lostArbitration low => exact State.execLostArbitration_leaves low
  | conflict low => exact State.execConflict_leaves low
  | h0Completes f => exact State.execH0Completes_leaves f
  | h1Completes f => exact State.execH1Completes_leaves f
  | h2Completes f => exact State.execH2Completes_leaves f
  | h3Completes f => exact State.execH3Completes_leaves f
  | aCompletes f low => exact State.execACompletes_leaves f low
  | lCompletes f low => exact State.execLCompletes_leaves f low
  | payloadFrameCompletes f g => exact State.execPayloadFrameCompletes_leaves f g
  | c0Completes f g => exact State.execC0Completes_leaves f g
  | c1Completes f g low => exact State.execC1Completes_leaves f g low
  | vCompletes f g low => exact State.execVCompletes_leaves f g low

/-- A field that differs is one that the command may change. -/
theorem mem_mayChange_of_differs {c : Instr} {s t : State} (runs : exec c s = .next t) {i : Item}
    (differs : ¬ s.Same t i) : i ∈ mayChange c :=
  by_contra fun out => differs (exec_leaves c s t runs i out)

/-- The tag of a destination that differs. -/
theorem not_same_tags {s t : State} (differs : ∃ d, (t.dest d).nextTag ≠ (s.dest d).nextTag) : ¬ s.Same t .tags :=
  fun same => differs.elim fun d ne => ne (congrFun same d)

/-! ### Which commands may change a field -/

section
variable {c : Instr}

theorem eq_of_mem_mem_mayChange (named : .mem ∈ mayChange c) (running : c ≠ .powerOn) :
    c = .openSend ∨ c = .openOffer ∨ (∃ v, c = .fillData v) ∨ (∃ f, c = .h3Completes f)
      ∨ ∃ f g, c = .payloadFrameCompletes f g := by
  cases c <;> simp_all [mayChange, mem_registerItems]

theorem eq_of_settings_mem_mayChange (named : .settings ∈ mayChange c) (running : c ≠ .powerOn) : c = .configure := by
  cases c <;> simp_all [mayChange, mem_registerItems]

variable (running : c ≠ .powerOn) (kept : c ≠ .softReset)
include running kept

theorem eq_of_operandA_mem_mayChange (named : .operandA ∈ mayChange c) : ∃ v, c = .registerWrite .operandA v := by
  cases c <;> simp_all [mayChange, mem_registerItems]

theorem eq_of_operandB_mem_mayChange (named : .operandB ∈ mayChange c) : ∃ v, c = .registerWrite .operandB v := by
  cases c <;> simp_all [mayChange, mem_registerItems]

theorem eq_of_operandC_mem_mayChange (named : .operandC ∈ mayChange c) :
    (∃ v, c = .registerWrite .operandC v) ∨ c = .openSend ∨ c = .openOffer := by
  cases c <;> simp_all [mayChange, mem_registerItems]

theorem eq_of_viewSelect_mem_mayChange (named : .viewSelect ∈ mayChange c) :
    ∃ v, c = .registerWrite .viewSelect v := by
  cases c <;> simp_all [mayChange, mem_registerItems]

theorem eq_of_enables_mem_mayChange (named : .enables ∈ mayChange c) : ∃ v, c = .enablesWrite v := by
  cases c <;> simp_all [mayChange, mem_registerItems]

theorem eq_of_sources_mem_mayChange (named : .sources ∈ mayChange c) : ∃ f g low, c = .vCompletes f g low := by
  cases c <;> simp_all [mayChange, mem_registerItems]

theorem eq_of_arrivals_mem_mayChange (named : .arrivals ∈ mayChange c) :
    (∃ f g low, c = .c1Completes f g low) ∨ ∃ f g low, c = .vCompletes f g low := by
  cases c <;> simp_all [mayChange, mem_registerItems]

theorem eq_of_posts_mem_mayChange (named : .posts ∈ mayChange c) : c = .post := by
  cases c <;> simp_all [mayChange, mem_registerItems]

theorem eq_of_tags_mem_mayChange (named : .tags ∈ mayChange c) : c = .post := by
  cases c <;> simp_all [mayChange, mem_registerItems]

theorem eq_of_halted_mem_mayChange (named : .halted ∈ mayChange c) : c = .halt ∨ c = .go := by
  cases c <;> simp_all [mayChange, mem_registerItems]

end

theorem eq_of_result_mem_mayChange {c : Instr} (named : .result ∈ mayChange c) :
    c ∈ [.powerOn, .configure, .lineOff, .softReset, .openSend, .post, .cancel, .halt, .go, .resume, .discard, .take,
      .takeReport, .openOffer, .postOffer, .withdraw, .clearOffer, .clearStatistics]
    ∨ (∃ low, c = .lineOn low) ∨ ∃ code, c = .unknownCommand code := by
  cases c <;> simp_all [mayChange, mem_registerItems]

end Sys2Proof.Machine

/-! SUPPORT. The statement about what a command leaves unchanged. -/

namespace Sys2Proof.Machine

/-- R192: a command that opens a buffer changes OPERAND C only if it is DONE. -/
theorem result_of_operandC_differs {c : Instr} {s t : State} (opens : RefusedOrDone c s) (runs : exec c s = .next t)
    (differs : t.window.opC ≠ s.window.opC) : t.window.result = .done := by
  rcases opens with ⟨r, refused⟩ | ⟨u, done, result⟩
  · cases runs.symm.trans refused
    exact absurd rfl differs
  · cases runs.symm.trans done
    exact result

/-- Settles O48: a field that differs is one the command may change, and few commands may. -/
theorem commandsLeaveWhatTheyDoNotName : Obligations.CommandsLeaveWhatTheyDoNotName := by
  unfold Obligations.CommandsLeaveWhatTheyDoNotName
  refine ⟨fun c s t runs running => ?_, fun c s t runs differs =>
    eq_of_result_mem_mayChange (mem_mayChange_of_differs (i := .result) runs differs)⟩
  have changed {i : Item} (differs : ¬ s.Same t i) : i ∈ mayChange c := mem_mayChange_of_differs runs differs
  refine ⟨fun differs => eq_of_mem_mem_mayChange (changed (i := .mem) differs) running,
    fun differs => eq_of_settings_mem_mayChange (changed (i := .settings) differs) running, fun kept =>
    ⟨fun differs => eq_of_operandA_mem_mayChange running kept (changed (i := .operandA) differs),
      fun differs => eq_of_operandB_mem_mayChange running kept (changed (i := .operandB) differs),
      fun differs => ?_,
      fun differs => eq_of_viewSelect_mem_mayChange running kept (changed (i := .viewSelect) differs),
      fun differs => eq_of_enables_mem_mayChange running kept (changed (i := .enables) differs),
      fun differs => eq_of_sources_mem_mayChange running kept (changed (i := .sources) differs),
      fun differs => eq_of_arrivals_mem_mayChange running kept (changed (i := .arrivals) differs),
      fun differs => eq_of_posts_mem_mayChange running kept (changed (i := .posts) differs),
      fun differs => eq_of_tags_mem_mayChange running kept (changed (not_same_tags differs)),
      fun differs => eq_of_halted_mem_mayChange running kept (changed (i := .halted) differs)⟩⟩
  rcases eq_of_operandC_mem_mayChange running kept (changed (i := .operandC) differs) with written | rfl | rfl
  · exact Or.inl written
  · exact Or.inr ⟨Or.inl rfl, result_of_operandC_differs (openSend_refusedOrDone s) runs differs⟩
  · exact Or.inr ⟨Or.inr rfl, result_of_operandC_differs (openOffer_refusedOrDone s) runs differs⟩

end Sys2Proof.Machine
